-- ==== Sys2Proof/Word.lean ====
section
/-! DEFINITION. What crosses the input port of the block: the stimulus word `stim[6:0]` (spec/30_encoding.md R65, R66)
and the logic level of one contact (00_scope.md R8). The block has no memory word, no address and no register word
(20_memory.md R50, 10_state.md R39): its counters are mathematical integers (00_scope.md R11) and its other values are
enumerations. -/

namespace Sys2Proof

/-- The stimulus word, seven bits, bit 0 the least significant (R65, R66, R7, R52). -/
abbrev StimWord := BitVec 7

/-- The logic value of a contact at the instant it is sampled (R8; the codes are in Decode.lean). -/
inductive Level where
  | low
  | high
deriving DecidableEq, Repr, Inhabited

end Sys2Proof
end

