-- ==== Sys2Proof/Config.lean ====
section
/-! DEFINITION. What an instantiation fixes and what the spec leaves open (spec/00_scope.md R6, R10, R11): the number
system NUM, the source's defaults, the finite widths, and the free values of the model. Nothing here changes while the
machine runs. -/

namespace Sys2Proof

/-- An element of the carrier `NUM.T` (R10). The spec names no format, so an element is known only by a code; which code
stands for which number is the number system's affair and nothing in the model looks at it.
DESIGN CHOICE (notes/assumptions/1.md): the carrier is countable. -/
structure Num where
  code : Nat
deriving DecidableEq, Repr, Inhabited

/-- A number system as R10 admits it: four total operations on `Num`, the elements that are the numbers 15.0 and 45.0,
and the source's one example as the only law. The values after `:=` are those of a one-element system: they show
that the type is inhabited, which the constant `Config.num` below needs, and are no value of it. -/
structure NumSystem where
  ofNat : Nat → Num := fun _ => default
  ofInt : Int → Num := fun _ => default
  div : Num → Num → Num := fun _ _ => default
  mul : Num → Num → Num := fun _ _ => default
  /-- The element that is the number 15.0 (R10). -/
  num15 : Num := default
  /-- The element that is the number 45.0 (R10). -/
  num45 : Num := default
  /-- R10: "`NUM.div(NUM.ofNat 360, NUM.ofNat 24)` is the number 15.0". -/
  scale_example : div (ofNat 360) (ofNat 24) = num15 := by rfl
  /-- R10: "`NUM.mul(NUM.ofInt 3, 15.0)` is the number 45.0". -/
  degrees_example : mul (ofInt 3) num15 = num45 := by rfl
deriving Inhabited

/-- The open parameter NUM (R6, R10, decision D14): a constant without a body, so no proof sees any value of it beyond
the source's example, which its type carries. -/
opaque Config.num : NumSystem

/-- The free levels: what `a_s`, `b_s` and `ref` hold between a CONSTRUCT and the first POLL (R28, R30,
93_implementation_defined.md U11 "any value"). One fresh index a draw; nothing constrains the result.
DESIGN CHOICE (notes/assumptions/3.md). -/
opaque Config.freeLevel : Nat → Level

/-- Default of `cfg_debounce_ms` (R6). -/
def Config.defaultDebounceMs : Nat := 70
/-- Default of `cfg_detents` (R6). -/
def Config.defaultDetents : Nat := 24
/-- Default of `cfg_max_angle` (R6). -/
def Config.defaultMaxAngle : Nat := 360

/-- The widths ACC_W, POS_W and CFG_W of a finite realisation (R6); `none` is "unbounded", which is what the model of
Machine/Step.lean takes. Machine/Finite.lean takes them as an argument. R6 admits "positive integer or unbounded"; the
type admits a width of 0 as well. DESIGN CHOICE (notes/assumptions/15.md). -/
structure Widths where
  acc : Option Nat
  pos : Option Nat
  cfg : Option Nat
deriving DecidableEq, Repr

end Sys2Proof
end

