-- ==== Sys2Proof/Syntax.lean ====
section
/-! DEFINITION. The operations of the block (spec/opcode_table.json, one constructor a row) and the enumerations that
are their operands and results (00_scope.md R8, 30_encoding.md R67 to R69). Codes and encodings are in Decode.lean. -/

namespace Sys2Proof

/-- The decoding strategy `CFG.STRATEGY` (R5, R25). -/
inductive Strategy where
  | cycle4
  | edge
deriving DecidableEq, Repr, Inhabited

/-- The answer of the Debounce Gate as it stands in the field `db`: the three answers of R8 and the reserved code 3,
which R72 (b) keeps as an answer that is not `Finished`. -/
inductive GateCode where
  | notStarted
  | ongoing
  | finished
  | reserved3
deriving DecidableEq, Repr, Inhabited

/-- A direction report (R8). -/
inductive Dir where
  | negative
  | neutral
  | positive
deriving DecidableEq, Repr, Inhabited

/-- The unit of a position read-out (R8). -/
inductive PosUnit where
  | detents
  | degrees
deriving DecidableEq, Repr, Inhabited

/-- A step code, "integer in {0,1,2,3}" (R31, R32, R104). -/
inductive StepCode where
  | s0
  | s1
  | s2
  | s3
deriving DecidableEq, Repr, Inhabited

/-- The constructor inputs as the host presents them (R69): the two pin identifiers are required, every other input may
be omitted and then takes its default. Naturals, as R69 has them in the model. -/
structure CtorInputs where
  pinA : Nat
  pinB : Nat
  debounceMs : Option Nat := none
  detents : Option Nat := none
  maxAngle : Option Nat := none
  strategy : Option Strategy := none
deriving DecidableEq, Repr, Inhabited

/-- One event of the host (R65, R77): the stimulus word of a clock and the six configuration inputs of that clock,
which only a CONSTRUCT reads (R69). -/
structure Event where
  stim : StimWord
  cfg : CtorInputs
deriving DecidableEq, Repr, Inhabited

/-- The operation set, one constructor a row of the opcode table (R1, R67). `a`, `b` and `db` are the operands of R68,
the constructor inputs those of R69. -/
inductive Instr where
  /-- CONSTRUCT (R90). -/
  | construct (c : CtorInputs)
  /-- NOP (R91). -/
  | nop
  /-- POLL.C4 (R100); `db` is not read. -/
  | pollC4 (a b : Level)
  /-- POLL.EDGE (R130). -/
  | pollEdge (a b : Level) (db : GateCode)
  /-- GETPOS.DET (R151), `unit` = 0. -/
  | getposDet
  /-- GETPOS.DEG (R152), `unit` = 1. -/
  | getposDeg
deriving DecidableEq, Repr

end Sys2Proof
end

