-- ==== Sys2Proof/WellFormed.lean ====
section
/-! DEFINITION. Well-formedness of an operation: the one check the spec has is that of a configuration
(spec/40_construct_and_hold.md R92). Every other operation is well formed with every operand (30_encoding.md R72,
42_poll_edge.md R143). -/

namespace Sys2Proof

/-- R92: "A configuration is well formed exactly when `cfg_detents > 0`". An omitted input takes its default (R69). -/
def CtorInputs.wellFormed (c : CtorInputs) : Bool :=
  decide (0 < c.detents.getD Config.defaultDetents)

/-- Well-formedness of an operation. -/
def Instr.wellFormed : Instr → Bool
  | .construct c => c.wellFormed
  | .nop => true
  | .pollC4 _ _ => true
  | .pollEdge _ _ _ => true
  | .getposDet => true
  | .getposDeg => true

end Sys2Proof
end

