-- ==== Sys2Proof/Decode.lean ====
section
/-! DEFINITION. The codes of the enumerations (spec/00_scope.md R8, 30_encoding.md R71), the layout of the stimulus word
(R66), the opcode table (R67), the decoder, the encoder, and the assembler's lines (R75, R76). -/

namespace Sys2Proof

/-! ### Codes (R8, R71) -/

/-- `Low` = 0, `High` = 1 (R8). -/
def Level.code : Level → BitVec 1
  | .low => 0#1
  | .high => 1#1

def Level.ofCode (w : BitVec 1) : Level :=
  if w = 1#1 then .high else .low

/-- `NotStarted` = 0, `Ongoing` = 1, `Finished` = 2, and the reserved code 3 (R8). -/
def GateCode.code : GateCode → BitVec 2
  | .notStarted => 0#2
  | .ongoing => 1#2
  | .finished => 2#2
  | .reserved3 => 3#2

def GateCode.ofCode (w : BitVec 2) : GateCode :=
  if w = 0#2 then .notStarted
  else if w = 1#2 then .ongoing
  else if w = 2#2 then .finished
  else .reserved3

/-- `dval(d)`, the integer weight of a direction (R8). -/
def Dir.dval : Dir → Int
  | .negative => -1
  | .neutral => 0
  | .positive => 1

/-- The code on the port `dir`: "`Negative` = 0b11, `Neutral` = 0b00, `Positive` = 0b01" (R71). -/
def Dir.code : Dir → BitVec 2
  | .negative => 0b11#2
  | .neutral => 0b00#2
  | .positive => 0b01#2

/-- `Detents` = 0, `Degrees` = 1 (R8): the bit `stim[4]` of a GETPOS (R66). -/
def PosUnit.code : PosUnit → BitVec 1
  | .detents => 0#1
  | .degrees => 1#1

/-- A step code as the integer it is (R31). -/
def StepCode.toInt : StepCode → Int
  | .s0 => 0
  | .s1 => 1
  | .s2 => 2
  | .s3 => 3

/-- A step code as the two bits of R104. -/
def StepCode.code : StepCode → BitVec 2
  | .s0 => 0#2
  | .s1 => 1#2
  | .s2 => 2#2
  | .s3 => 3#2

/-! ### The stimulus word (R66) -/

def rstField (w : StimWord) : BitVec 1 := w.extractLsb' 6 1
def opField (w : StimWord) : BitVec 2 := w.extractLsb' 4 2
def dbField (w : StimWord) : BitVec 2 := w.extractLsb' 2 2
def bField (w : StimWord) : BitVec 1 := w.extractLsb' 1 1
def aField (w : StimWord) : BitVec 1 := w.extractLsb' 0 1

/-- The word with the five fields of R66, `rst` the most significant. -/
def stimWord (rst : BitVec 1) (op db : BitVec 2) (b a : BitVec 1) : StimWord :=
  rst ++ op ++ db ++ b ++ a

/-! ### The opcode table (R67) -/

/-- One row: a word `w` selects it when `w &&& mask = pattern`; a row with a strategy is POLL's, which the strategy of
the configuration splits in two. -/
structure OpRow where
  mnemonic : String
  mask : StimWord
  pattern : StimWord
  strategy : Option Strategy
deriving DecidableEq, Repr

def OpRow.construct : OpRow := ⟨"CONSTRUCT", 0x40#7, 0x40#7, none⟩
def OpRow.nop : OpRow := ⟨"NOP", 0x70#7, 0x00#7, none⟩
def OpRow.pollC4 : OpRow := ⟨"POLL.C4", 0x70#7, 0x10#7, some .cycle4⟩
def OpRow.pollEdge : OpRow := ⟨"POLL.EDGE", 0x70#7, 0x10#7, some .edge⟩
def OpRow.getposDet : OpRow := ⟨"GETPOS.DET", 0x70#7, 0x20#7, none⟩
def OpRow.getposDeg : OpRow := ⟨"GETPOS.DEG", 0x70#7, 0x30#7, none⟩

/-- The table of R67. -/
def opTable : List OpRow :=
  [.construct, .nop, .pollC4, .pollEdge, .getposDet, .getposDeg]

/-- The row a word selects under a strategy. -/
def OpRow.selects (σ : Strategy) (w : StimWord) (r : OpRow) : Bool :=
  (w &&& r.mask == r.pattern) && (r.strategy.all (· == σ))

/-- The row of an operation. -/
def Instr.row : Instr → OpRow
  | .construct _ => .construct
  | .nop => .nop
  | .pollC4 _ _ => .pollC4
  | .pollEdge _ _ _ => .pollEdge
  | .getposDet => .getposDet
  | .getposDeg => .getposDeg

/-! ### The decoder -/

/-- R67: the operation of an event under the strategy of the live configuration. Total: "there is no illegal word".
`rst` is tested first (R73), the fields an operation does not read are ignored (R72), and the strategy is no bit of the
word (R67, R74). -/
def decode (σ : Strategy) (e : Event) : Instr :=
  if rstField e.stim = 1#1 then .construct e.cfg
  else if opField e.stim = 0b00#2 then .nop
  else if opField e.stim = 0b01#2 then
    match σ with
    | .cycle4 => .pollC4 (.ofCode (aField e.stim)) (.ofCode (bField e.stim))
    | .edge =>
      .pollEdge (.ofCode (aField e.stim)) (.ofCode (bField e.stim)) (.ofCode (dbField e.stim))
  else if opField e.stim = 0b10#2 then .getposDet
  else .getposDeg

/-- Why bits are no stimulus word. -/
inductive DecodeError where
  /-- The number does not fit the seven bits of `stim[6:0]` (R65: "There is one length (7 bits)"). -/
  | notAStimulusWord
deriving DecidableEq, Repr

/-- The decoder on any number read as bits: a number above 127 is no stimulus word and is rejected by name; every
other one decodes. -/
def decodeBits (σ : Strategy) (c : CtorInputs) (w : Nat) : Except DecodeError Instr :=
  if w < 128 then .ok (decode σ ⟨BitVec.ofNat 7 w, c⟩) else .error .notAStimulusWord

/-! ### The encoder -/

/-- The configuration inputs of a plain `CONSTRUCT pinA=2 pinB=3`: the examples' pin identifiers and every default
(R75). What stands on the configuration inputs in an event that is no CONSTRUCT is not read (R69).
DESIGN CHOICE (notes/assumptions/6.md). -/
def CtorInputs.example23 : CtorInputs := { pinA := 2, pinB := 3 }

/-- The event of an operation: the words of R67 and R75, unread fields written as 0 (R72 (a)), and for a CONSTRUCT its
configuration inputs (R69). -/
def encode : Instr → Event
  | .construct c => ⟨stimWord 1#1 0#2 0#2 0#1 0#1, c⟩
  | .nop => ⟨stimWord 0#1 0b00#2 0#2 0#1 0#1, .example23⟩
  | .pollC4 a b => ⟨stimWord 0#1 0b01#2 0#2 b.code a.code, .example23⟩
  | .pollEdge a b db => ⟨stimWord 0#1 0b01#2 db.code b.code a.code, .example23⟩
  | .getposDet => ⟨stimWord 0#1 (1#1 ++ PosUnit.detents.code) 0#2 0#1 0#1, .example23⟩
  | .getposDeg => ⟨stimWord 0#1 (1#1 ++ PosUnit.degrees.code) 0#2 0#1 0#1, .example23⟩

/-- The strategies under which an operation is what its word decodes to: a POLL belongs to one (R67, R74). -/
def Instr.under : Instr → Strategy → Bool
  | .construct _, _ => true
  | .nop, _ => true
  | .pollC4 _ _, σ => σ == .cycle4
  | .pollEdge _ _ _, σ => σ == .edge
  | .getposDet, _ => true
  | .getposDeg, _ => true

/-- The decoder on a word of spec/opcode_table.json. The table gives a row its seven bits and no configuration inputs
and no strategy, so the inputs are those of the plain CONSTRUCT and the strategy is the default `CYCLE4` (R6, R75): the
word 0x10 of the rows POLL.C4 and POLL.EDGE, which is one word (R67), reads as POLL.C4 here.
DESIGN CHOICE (notes/assumptions/6.md). -/
def decodeTableWord (_nbits w : Nat) : Option Instr :=
  match decodeBits .cycle4 .example23 w with
  | .ok i => some i
  | .error _ => none

/-! ### Lookup of the assembler's step macro (R76) -/

/-- The levels at which contacts A and B stand off the reference at a step: (0,0), (1,0), (1,1), (0,1) for the steps
0 to 3 (R76). -/
def StepCode.offsets : StepCode → Bool × Bool
  | .s0 => (false, false)
  | .s1 => (true, false)
  | .s2 => (true, true)
  | .s3 => (false, true)

/-- The other level. -/
def Level.inv : Level → Level
  | .low => .high
  | .high => .low

/-- `ref xor off` (R76, R7). -/
def Level.xorOff (r : Level) (off : Bool) : Level := if off then r.inv else r

/-- The pair of levels `POLLSTEP <s>` puts on contacts A and B when the reference is `r` (R76). -/
def pollStepLevels (r : Level) (s : StepCode) : Level × Level :=
  (r.xorOff s.offsets.1, r.xorOff s.offsets.2)

/-! ### The assembler's lines (R75, R76) -/

/-- A line of the text form of an event (R75) or of the test-bench macros (R76). -/
inductive AsmLine where
  | construct (c : CtorInputs)
  | nop
  | poll (a b : Level) (db : Option GateCode)
  | getposDet
  | getposDeg
  | pollStep (s : StepCode)
  | rest
  | getpos (unit : PosUnit)
deriving DecidableEq, Repr

/-- The event of a line. `ref` is the value of `S.ref` at the time, which the macros of R76 read. -/
def AsmLine.assemble (ref : Level) : AsmLine → Event
  | .construct c => ⟨0x40#7, c⟩
  | .nop => ⟨0x00#7, .example23⟩
  | .poll a b none => ⟨stimWord 0#1 0b01#2 0#2 b.code a.code, .example23⟩
  | .poll a b (some db) => ⟨stimWord 0#1 0b01#2 db.code b.code a.code, .example23⟩
  | .getposDet => ⟨0x20#7, .example23⟩
  | .getposDeg => ⟨0x30#7, .example23⟩
  | .pollStep s =>
    ⟨stimWord 0#1 0b01#2 0#2 (pollStepLevels ref s).2.code (pollStepLevels ref s).1.code, .example23⟩
  | .rest =>
    ⟨stimWord 0#1 0b01#2 0#2 (pollStepLevels ref .s0).2.code (pollStepLevels ref .s0).1.code, .example23⟩
  | .getpos .detents => ⟨0x20#7, .example23⟩
  | .getpos .degrees => ⟨0x30#7, .example23⟩

/-- A level as R75 writes it. -/
def Level.text : Level → String
  | .low => "0"
  | .high => "1"

/-- A gate answer as R75 writes it: "`NS` (0), `ON` (1), `FIN` (2), or the number". -/
def GateCode.text : GateCode → String
  | .notStarted => "NS"
  | .ongoing => "ON"
  | .finished => "FIN"
  | .reserved3 => "3"

/-- A step code as the macro line writes it (R76). -/
def StepCode.text : StepCode → String
  | .s0 => "0"
  | .s1 => "1"
  | .s2 => "2"
  | .s3 => "3"

/-- An optional configuration input of a CONSTRUCT line (R75). -/
def asmOption (name : String) (value : Option String) : String :=
  match value with
  | none => ""
  | some v => " " ++ name ++ "=" ++ v

/-- The text of a line (R75, R76). -/
def AsmLine.text : AsmLine → String
  | .construct c =>
    "CONSTRUCT" ++ asmOption "pinA" (some (toString c.pinA)) ++ asmOption "pinB" (some (toString c.pinB))
      ++ asmOption "debounce" (c.debounceMs.map toString) ++ asmOption "detents" (c.detents.map toString)
      ++ asmOption "maxAngle" (c.maxAngle.map toString)
      ++ asmOption "strategy"
        (c.strategy.map fun | .cycle4 => "CYCLE4" | .edge => "EDGE")
  | .nop => "NOP"
  | .poll a b none => "POLL " ++ a.text ++ ", " ++ b.text
  | .poll a b (some db) => "POLL " ++ a.text ++ ", " ++ b.text ++ ", " ++ db.text
  | .getposDet => "GETPOS.DET"
  | .getposDeg => "GETPOS.DEG"
  | .pollStep s => "POLLSTEP " ++ s.text
  | .rest => "REST"
  | .getpos .detents => "GETPOS Detents"
  | .getpos .degrees => "GETPOS Degrees"

end Sys2Proof
end

