-- ==== Sys2Proof/Machine/State.lean ====
section
/-! DEFINITION. The state of one decoder (spec/10_state.md R20 to R36), what the block answers (30_encoding.md R70),
the reasons a step can stop, and the state after reset (70_reset_and_hazards.md R185, R186). -/

namespace Sys2Proof.Machine

/-- The configuration registers CFG.* (R21 to R25): written by CONSTRUCT only. "A model makes `DETENTS > 0` a field of its
configuration type (a proof carried by the value)" (R92, U1): no state of the machine holds zero detents. -/
structure Configuration where
  /-- `CFG.PIN_A` (R21). -/
  pinA : Nat
  /-- `CFG.PIN_B` (R21). -/
  pinB : Nat
  /-- `CFG.DEBOUNCE_MS` (R22). -/
  debounceMs : Nat
  /-- `CFG.DETENTS` (R23). -/
  detents : Nat
  /-- `CFG.MAX_ANGLE` (R24). -/
  maxAngle : Nat
  /-- `CFG.STRATEGY` (R25). -/
  strategy : Strategy
  /-- "Invariant: detents > 0 (divisor for scale factor)" (R92, R23). -/
  detents_pos : 0 < detents
deriving DecidableEq, Repr

/-- The part `val` of a response: none, an integer, or a `NUM.T` (R70). -/
inductive Val where
  | none
  | int (z : Int)
  | num (x : Num)
deriving DecidableEq, Repr

/-- The response of an event: the output ports `dir`, `gate_req` and `val` (R70, R77). -/
structure Response where
  dir : Dir
  gateReq : Bool
  val : Val
deriving DecidableEq, Repr

/-- A call of a collaborator, with the identifiers the block hands over (R21, R51, R135). Both contacts are sampled at
one instant (R54), so the two `ReadPin` calls of a poll are one entry. -/
inductive Call where
  /-- `ReadPin(CFG.PIN_A)` and `ReadPin(CFG.PIN_B)` (R68, R176). -/
  | samplePins (pinA pinB : Nat)
  /-- `Gate.BeginOrContinue(CFG.PIN_B)` of the gate whose window is `CFG.DEBOUNCE_MS` (R135, R175, R177). -/
  | beginOrContinue (pinB windowMs : Nat)
deriving DecidableEq, Repr

/-- The state. Every element of R21 to R36 under its own name, and the model's own fields, marked as such. Plain data. -/
structure State where
  /-- Model's own (R187): whether an instance exists, that is, whether a CONSTRUCT has been executed. -/
  live : Bool
  /-- `CFG.*` (R21 to R25). -/
  cfg : Configuration
  /-- `SCALE` (R26). -/
  scale : Num
  /-- `a_s` (R28). -/
  aS : Level
  /-- `b_s` (R28). -/
  bS : Level
  /-- `dflt_valid` (R29). -/
  dfltValid : Bool
  /-- `ref` (R30). -/
  ref : Level
  /-- `cur_step` (R31). -/
  curStep : StepCode
  /-- `prev_step` (R32). -/
  prevStep : StepCode
  /-- `acc` (R33), a mathematical integer (R11). -/
  acc : Int
  /-- `cycle_finished` (R34). -/
  cycleFinished : Bool
  /-- `settling` (R35). -/
  settling : Bool
  /-- `position` (R36), a mathematical integer (R11). -/
  position : Int
  /-- Model's own: the events the host presents next, the next one first (R65, R57). -/
  inbox : List Event
  /-- Model's own: the output ports in the clock of the latest event (R70). Not state of the block. -/
  resp : Response
  /-- Model's own: the collaborator calls made in the latest event, in their order (R57 (5)). -/
  calls : List Call
  /-- Model's own: how many free values have been drawn (Config.freeLevel). -/
  draws : Nat
deriving DecidableEq, Repr

/-- The faults of the block: none. "No operation raises an exception, on any input, in any state" (R165), and
93_implementation_defined.md has the block never fault; nobody raises one. Safe: with no constructor, no claim can
rest on a fault the block does not have. -/
inductive Fault where
deriving DecidableEq, Repr

/-- Where the spec gives no meaning ("refuse" in 93_implementation_defined.md). -/
inductive Refusal where
  /-- Raised by `exec` for an instruction without a meaning yet; no arm raises it. Safe. -/
  | notModelled (mnemonic : String)
  /-- Raised by every operation but CONSTRUCT when no instance exists: "a trace that does not is refused" (R187, U15).
  Safe: nothing is claimed of such a run. -/
  | noneConstructed
  /-- Raised by CONSTRUCT with `cfg_detents = 0`: the configuration "is refused, no instance exists" (R92, U1).
  Safe: nothing is claimed of such a run. -/
  | zeroDetents
  /-- Raised by POLL.C4 and POLL.EDGE executed under the other strategy: mixing the two is refused (R5, R167, U3). No
  step reaches it, since the decoder reads the strategy (R67). Safe. -/
  | strategyNotSelected
  /-- Raised by the finite realisation of Machine/Finite.lean alone, when a value leaves its width (R11, R167, U12).
  Safe. -/
  | beyondWidth
deriving DecidableEq, Repr

/-- The response of an event that reports nothing: `dir` = Neutral, `gate_req` = 0, `val` = none (R70). -/
def Response.idle : Response := ⟨.neutral, false, .none⟩

/-- The state right after reset, which is after a CONSTRUCT (R185, R186): the plain `CONSTRUCT pinA=2 pinB=3` with every
default (R75). Every value but those named next is the spec's (R21 to R36).
DESIGN CHOICE: the two pin identifiers, which have no default (notes/assumptions/2.md); `a_s`, `b_s` and `ref`, which
R28 and R30 leave unspecified (notes/assumptions/3.md); the model's own fields (notes/assumptions/5.md). -/
def State.reset : State where
  live := true
  cfg := ⟨2, 3, Config.defaultDebounceMs, Config.defaultDetents, Config.defaultMaxAngle, .cycle4, by decide⟩
  scale := Config.num.div (Config.num.ofNat Config.defaultMaxAngle) (Config.num.ofNat Config.defaultDetents)
  aS := .low
  bS := .low
  dfltValid := false
  ref := .low
  curStep := .s0
  prevStep := .s0
  acc := 0
  cycleFinished := true
  settling := false
  position := 0
  inbox := []
  resp := .idle
  calls := []
  draws := 0

/-- The state before the first CONSTRUCT (R187): no instance exists. The other fields hold what they hold after reset;
no operation reads them, since every operation but CONSTRUCT is refused and CONSTRUCT writes them all
(notes/assumptions/4.md). -/
def State.beforeConstruct : State := { State.reset with live := false }

end Sys2Proof.Machine
end

