-- ==== Sys2Proof/Machine/Operands.lean ====
section
/-! DEFINITION. What the operands of the operations stand for: the constructor inputs with their defaults
(spec/30_encoding.md R69), and the sampled pair against the reference (41_poll_cycle4.md R103, R104). -/

namespace Sys2Proof.Machine

/-- The configuration a CONSTRUCT copies into CFG.*: "An omitted optional input takes its default" (R69, R6, R90). Only
well-formed inputs make one (R92). -/
def configurationOf (c : CtorInputs) (h : c.wellFormed = true) : Configuration where
  pinA := c.pinA
  pinB := c.pinB
  debounceMs := c.debounceMs.getD Config.defaultDebounceMs
  detents := c.detents.getD Config.defaultDetents
  maxAngle := c.maxAngle.getD Config.defaultMaxAngle
  strategy := c.strategy.getD .cycle4
  detents_pos := of_decide_eq_true h

/-- The scale factor of a configuration: one division in NUM (R26, R93). -/
def scaleOf (g : Configuration) : Num :=
  Config.num.div (Config.num.ofNat g.maxAngle) (Config.num.ofNat g.detents)

/-- An off-default bit: `level xor S.ref`, "1 when they differ" (R103, R7). -/
def offDefault (level ref : Level) : Bool := decide (level ≠ ref)

/-- The step lookup `classify(aoff, boff)` (R104). -/
def classify : Bool → Bool → StepCode
  | false, false => .s0
  | true, false => .s1
  | true, true => .s2
  | false, true => .s3

/-- The step code of a sampled pair against the one recorded level (R100 step 2, R103). -/
def stepOf (ref a b : Level) : StepCode :=
  classify (offDefault a ref) (offDefault b ref)

end Sys2Proof.Machine
end

