-- ==== Sys2Proof/Machine/Flags.lean ====
section
/-! DEFINITION. The decisions of a POLL: the three branches and the transition lookup of the 4-step strategy
(spec/41_poll_cycle4.md R105 to R108), and the transition test and the direction rule of the edge strategy
(42_poll_edge.md R133, R136). -/

namespace Sys2Proof.Machine

/-- The three branches of steps 3 to 5. -/
inductive Branch where
  /-- Branch (a), a new cycle begins (R105). -/
  | begins
  /-- Branch (b), accumulate (R106). -/
  | accumulates
  /-- Branch (c), the cycle finishes (R108). -/
  | finishes
deriving DecidableEq, Repr

/-- Which branch a decoding poll takes: tested in the order (a), (b), (c), exactly one taken (R100, R169 (2)). -/
def branchOf (cycleFinished : Bool) (c : StepCode) : Branch :=
  if cycleFinished = true ∧ c ≠ .s0 then .begins
  else if cycleFinished = false ∧ c ≠ .s0 then .accumulates
  else .finishes

/-- The transition lookup `delta(p, c)` (R107): "increment is +1, decrement is -1, invalid is 0". -/
def delta : StepCode → StepCode → Int
  | .s0, .s1 => 1
  | .s1, .s2 => 1
  | .s2, .s3 => 1
  | .s2, .s1 => -1
  | .s3, .s2 => -1
  | .s0, .s3 => -1
  | _, _ => 0

/-- The result of a cycle that finishes with accumulator `k`: only the sign counts (R108). -/
def dirOfAcc (k : Int) : Dir :=
  if k > 0 then .positive else if k < 0 then .negative else .neutral

/-- Whether a settle is in progress once the transition test has been made: one carried over, or a transition on
contact B seen now (R133). -/
def settleInProgress (settling : Bool) (b ref : Level) : Bool :=
  settling || offDefault b ref

/-- The direction of a settled edge: "A≠B → Positive, A=B → Negative" (R136). -/
def edgeDir (a b : Level) : Dir := if a = b then .negative else .positive

/-- The only test any rule makes of `db` (R72 (b), R136). -/
def gateFinished (db : GateCode) : Bool := db == .finished

end Sys2Proof.Machine
end

