-- ==== Sys2Proof/Machine/Ops.lean ====
section
/-! DEFINITION. The named operations over the state, which the meanings share. Each register is written by these alone.
There is no memory (spec/20_memory.md R50) and no exception entry or return (60_exceptions.md R165, R170, R171), so
none has an operation here. -/

namespace Sys2Proof.Machine

/-- Write the sample pair (R101, R131). -/
def State.sample (s : State) (a b : Level) : State := { s with aS := a, bS := b }

/-- Record the default level (R102, R132). -/
def State.recordDefault (s : State) (a : Level) : State := { s with ref := a, dfltValid := true }

/-- Write the current step (R104). -/
def State.setCurStep (s : State) (c : StepCode) : State := { s with curStep := c }

/-- Branch (a): the flag is cleared (R105). -/
def State.beginCycle (s : State) : State := { s with cycleFinished := false }

/-- Branch (b): the accumulator advances (R106). -/
def State.accumulate (s : State) (d : Int) : State := { s with acc := s.acc + d }

/-- Branch (c): the flag is set and the accumulator is zero (R108). -/
def State.finishCycle (s : State) : State := { s with cycleFinished := true, acc := 0 }

/-- Step 6: the current step becomes the previous step (R109). -/
def State.persistStep (s : State) (c : StepCode) : State := { s with prevStep := c }

/-- The position moves by `dval(d)` (R110, R136). -/
def State.movePosition (s : State) (d : Dir) : State := { s with position := s.position + d.dval }

/-- Write `settling` (R133, R136). -/
def State.setSettling (s : State) (v : Bool) : State := { s with settling := v }

/-- Write `ref` with the settled level of contact B (R137). -/
def State.setRef (s : State) (b : Level) : State := { s with ref := b }

/-- The response of the event and the collaborator calls made in it (R70, R51). -/
def State.answer (s : State) (r : Response) (calls : List Call) : State :=
  { s with resp := r, calls := calls }

/-- The response of a poll: a direction, the gate request, no value (R70). -/
def pollResponse (d : Dir) (gateReq : Bool) : Response := ⟨d, gateReq, .none⟩

/-- The response of a read-out (R150). -/
def getposResponse (v : Val) : Response := ⟨.neutral, false, v⟩

/-- The pin sample of a poll (R51 (a), R68). -/
def State.pinSample (s : State) : Call := .samplePins s.cfg.pinA s.cfg.pinB

/-- The gate call of a poll (R51 (b), R134, R135). -/
def State.gateCall (s : State) : Call := .beginOrContinue s.cfg.pinB s.cfg.debounceMs

/-- An operation of a live instance: its next state is `t`; with no instance it is refused (R187). -/
def State.ifLive (s t : State) : Host.Outcome State Fault Refusal :=
  if s.live then .next t else .refused .noneConstructed

/-- A POLL of the strategy `σ`: an operation of a live instance whose configuration selects that strategy (R67, R5). -/
def State.ifStrategy (s : State) (σ : Strategy) (t : State) : Host.Outcome State Fault Refusal :=
  if s.live then (if s.cfg.strategy = σ then .next t else .refused .strategyNotSelected)
  else .refused .noneConstructed

end Sys2Proof.Machine
end

