-- ==== Sys2Proof/Machine/Construct.lean ====
section
/-! DEFINITION. CONSTRUCT and NOP (spec/40_construct_and_hold.md R90 to R94). -/

namespace Sys2Proof.Machine

/-- The state a CONSTRUCT of the configuration `g` leaves (R90): configuration, scale factor and mutable state written; `a_s`, `b_s` and `ref` left
unspecified, that is, three fresh free values (R28, R30, U11). No pin is sampled and no collaborator is called.
A later CONSTRUCT does the same in full (R94). -/
def State.construct (s : State) (g : Configuration) : State :=
  { s with
    live := true
    cfg := g
    scale := scaleOf g
    aS := Config.freeLevel s.draws
    bS := Config.freeLevel (s.draws + 1)
    dfltValid := false
    ref := Config.freeLevel (s.draws + 2)
    curStep := .s0
    prevStep := .s0
    acc := 0
    cycleFinished := true
    settling := false
    position := 0
    resp := .idle
    calls := []
    draws := s.draws + 3 }

/-- CONSTRUCT (R90): in any state, also before any instance exists; refused with `cfg_detents = 0` (R92). -/
def execConstruct (c : CtorInputs) (s : State) : Host.Outcome State Fault Refusal :=
  if h : c.wellFormed = true then .next (s.construct (configurationOf c h)) else .refused .zeroDetents

/-- NOP (R91): no state element is written, no pin is sampled, the gate is not called. -/
def execNop (s : State) : Host.Outcome State Fault Refusal :=
  s.ifLive (s.answer .idle [])

end Sys2Proof.Machine
end

