-- ==== Sys2Proof/Machine/Getpos.lean ====
section
/-! DEFINITION. GETPOS, the read-out of the position (spec/43_getposition.md R150 to R157). -/

namespace Sys2Proof.Machine

/-- The position in degrees: one conversion, one multiplication by the stored scale factor (R152). -/
def State.degrees (s : State) : Num := Config.num.mul (Config.num.ofInt s.position) s.scale

/-- GETPOS.DET (R151): the exact integer. -/
def execGetposDet (s : State) : Host.Outcome State Fault Refusal :=
  s.ifLive (s.answer (getposResponse (.int s.position)) [])

/-- GETPOS.DEG (R152). -/
def execGetposDeg (s : State) : Host.Outcome State Fault Refusal :=
  s.ifLive (s.answer (getposResponse (.num s.degrees)) [])

end Sys2Proof.Machine
end

