-- ==== Sys2Proof/Machine/PollCycle4.lean ====
section
/-! DEFINITION. POLL.C4, the 4-step cycle strategy (spec/41_poll_cycle4.md R100 to R113). -/

namespace Sys2Proof.Machine

/-- Steps 3 to 5 on step code `c`: the state after the one branch taken, and its result (R105, R106, R108, R110). The
accumulator tested is the one before this poll. -/
def State.cycleStep (s : State) (c : StepCode) : State × Dir :=
  match branchOf s.cycleFinished c with
  | .begins => (s.beginCycle, .neutral)
  | .accumulates => (s.accumulate (delta s.prevStep c), .neutral)
  | .finishes => (s.finishCycle.movePosition (dirOfAcc s.acc), dirOfAcc s.acc)

/-- Steps 2 to 6 of a decoding poll: classify, the branch, persist, answer (R103 to R110). The gate is never called
(R113). -/
def State.decodePoll (s : State) (a b : Level) : State :=
  let c := stepOf s.ref a b
  let r := ((s.sample a b).setCurStep c).cycleStep c
  (r.1.persistStep c).answer (pollResponse r.2 false) [s.pinSample]

/-- The first poll: the sample pair and the default level are written and nothing else (R102). -/
def State.firstPoll (s : State) (a b : Level) : State :=
  ((s.sample a b).recordDefault a).answer (pollResponse .neutral false) [s.pinSample]

/-- POLL.C4 (R100). -/
def execPollC4 (a b : Level) (s : State) : Host.Outcome State Fault Refusal :=
  s.ifStrategy .cycle4 (if s.dfltValid then s.decodePoll a b else s.firstPoll a b)

end Sys2Proof.Machine
end

