-- ==== Sys2Proof/Machine/PollEdge.lean ====
section
/-! DEFINITION. POLL.EDGE, the edge-triggered, debounce-gated strategy (spec/42_poll_edge.md R130 to R143). -/

namespace Sys2Proof.Machine

/-- The first poll: the sample pair and the default level, which is contact A's (R132). The gate is not called. -/
def State.firstEdgePoll (s : State) (a b : Level) : State :=
  ((s.sample a b).recordDefault a).answer (pollResponse .neutral false) [s.pinSample]

/-- A poll that sees `Finished`: the direction of the edge, the position, the reference, and the settle is over
(R136, R137). -/
def State.settledPoll (s : State) (a b : Level) : State :=
  ((((s.sample a b).movePosition (edgeDir a b)).setRef b).setSettling false).answer
    (pollResponse (edgeDir a b) true) [s.pinSample, s.gateCall]

/-- A poll that calls the gate and is not told `Finished`: it writes the sample pair and `settling` (R134). -/
def State.waitingPoll (s : State) (a b : Level) : State :=
  ((s.sample a b).setSettling true).answer (pollResponse .neutral true) [s.pinSample, s.gateCall]

/-- A poll with no settle in progress: the gate is not called (R138). -/
def State.restingPoll (s : State) (a b : Level) : State :=
  ((s.sample a b).setSettling false).answer (pollResponse .neutral false) [s.pinSample]

/-- POLL.EDGE (R130). -/
def execPollEdge (a b : Level) (db : GateCode) (s : State) : Host.Outcome State Fault Refusal :=
  s.ifStrategy .edge
    (if s.dfltValid then
      if settleInProgress s.settling b s.ref then
        if gateFinished db then s.settledPoll a b else s.waitingPoll a b
      else s.restingPoll a b
    else s.firstEdgePoll a b)

end Sys2Proof.Machine
end

