-- ==== Sys2Proof/Machine/Dispatch.lean ====
section
/-! DEFINITION. One arm per operation of spec/opcode_table.json. -/

namespace Sys2Proof.Machine

/-- The meaning of an operation (R67's column "semantics"). -/
def exec (i : Instr) (s : State) : Host.Outcome State Fault Refusal :=
  match i with
  | .construct c => Sys2Proof.Machine.execConstruct c s
  | .nop => Sys2Proof.Machine.execNop s
  | .pollC4 a b => Sys2Proof.Machine.execPollC4 a b s
  | .pollEdge a b db => Sys2Proof.Machine.execPollEdge a b db s
  | .getposDet => Sys2Proof.Machine.execGetposDet s
  | .getposDeg => Sys2Proof.Machine.execGetposDeg s

end Sys2Proof.Machine
end

