-- ==== Sys2Proof/Machine/Events.lean ====
section
/-! DEFINITION. How events reach the block: the host presents them, the block takes the next one (spec/30_encoding.md
R65, 20_memory.md R57). There is no program counter and no fetch from a memory (10_state.md R38, 20_memory.md R60). -/

namespace Sys2Proof.Machine

/-- The host presents one event, to be taken next. -/
def State.present (s : State) (e : Event) : State := { s with inbox := e :: s.inbox }

/-- The next event and the state without it; none when the host presents nothing. -/
def State.takeEvent (s : State) : Option (Event × State) :=
  match s.inbox with
  | [] => none
  | e :: rest => some (e, { s with inbox := rest })

/-- The event of a word of the opcode table, which carries no configuration inputs: those of the plain
`CONSTRUCT pinA=2 pinB=3` (R75, notes/assumptions/6.md). -/
def tableEvent (w : Nat) : Event := ⟨BitVec.ofNat 7 w, .example23⟩

end Sys2Proof.Machine
end

