-- ==== Sys2Proof/Machine/Step.lean ====
section
/-! DEFINITION. One step of the machine: one event (spec/30_encoding.md R65). -/

namespace Sys2Proof.Machine

/-- One step: the next event is decoded under the strategy of the configuration (R67) and executed atomically (R57).
When the host presents no more, the state holds as the last event left it (R180, R181; notes/assumptions/5.md). -/
def step (s : State) : Host.Outcome State Fault Refusal :=
  match s.takeEvent with
  | none => .next s
  | some (e, t) => exec (decode t.cfg.strategy e) t

/-- The state with the word of an opcode-table row presented as the next event. -/
def State.withFetchWord (s : State) (_nbits w : Nat) : State := s.present (tableEvent w)

end Sys2Proof.Machine
end

