-- ==== Sys2Proof/Machine/Finite.lean ====
section
/-! DEFINITION. The finite realisation that spec/00_scope.md R11 speaks of: the model above with the widths ACC_W, POS_W
and CFG_W of R6 as an argument. It agrees with the model while every value stays in its width and refuses the run that
leaves it (R11, R167, 93_implementation_defined.md U12). -/

namespace Sys2Proof.Machine

/-- A signed value fits: it is "inside `-(2^(W-1))` to `2^(W-1) - 1`" (R11). No width: it always does.
DESIGN CHOICE (notes/assumptions/15.md): a width of 0, which R6 does not admit, is read as the width 1 (natural
subtraction), so that -1 and 0 fit. -/
def fitsSigned (w : Option Nat) (z : Int) : Bool :=
  match w with
  | none => true
  | some n => decide (-(2 ^ (n - 1) : Int) ≤ z ∧ z ≤ 2 ^ (n - 1) - 1)

/-- An unsigned configuration value fits (R6, R69: "unsigned").
DESIGN CHOICE (notes/assumptions/15.md): with a width of 0, which R6 does not admit, the value 0 alone fits. -/
def fitsUnsigned (w : Option Nat) (z : Nat) : Bool :=
  match w with
  | none => true
  | some n => decide (z < 2 ^ n)

/-- Every value held fits its width. -/
def State.fits (s : State) (w : Widths) : Bool :=
  fitsSigned w.acc s.acc && fitsSigned w.pos s.position && fitsUnsigned w.cfg s.cfg.debounceMs
    && fitsUnsigned w.cfg s.cfg.detents && fitsUnsigned w.cfg s.cfg.maxAngle

/-- The accumulator register of a realisation of width `n`, two's complement (R11). -/
def State.accWord (s : State) (n : Nat) : BitVec n := BitVec.ofInt n s.acc

/-- The position register of a realisation of width `n`, two's complement (R11). -/
def State.posWord (s : State) (n : Nat) : BitVec n := BitVec.ofInt n s.position

/-- One step of the finite realisation: a next state that leaves a width is refused. The state a step begins in is not
looked at. DESIGN CHOICE (notes/assumptions/14.md). -/
def stepWithin (w : Widths) (s : State) : Host.Outcome State Fault Refusal :=
  match step s with
  | .next t => if t.fits w then .next t else .refused .beyondWidth
  | .fault r => .fault r
  | .refused r => .refused r

/-- The finite realisation as a machine: the same state and the same reset.
DESIGN CHOICE (notes/assumptions/14.md): the spec leaves CFG_W open (R6) and gives no configuration in which a finite
realisation starts; the reset holds the defaults 70, 24 and 360 for every CFG_W, so with CFG_W below 9 it holds 360
beyond its width, a step without an event is then refused, and a CONSTRUCT whose values fit is executed. -/
def finiteCore (w : Widths) : Host.Core := { Sys2Proof.core with step := stepWithin w }

end Sys2Proof.Machine
end

