-- ==== Sys2Proof/Safety.lean ====
section
/-! DEFINITION. The terms in which claims are made: live states, the rest state, the invariants of the reachable states
(spec/10_state.md R40), runs over the events a host presents (60_exceptions.md R181), and the premises a host can keep
(70_reset_and_hazards.md R190). -/

namespace Sys2Proof.Machine

/-! ### States -/

/-- An instance exists and decodes by strategy `σ` (R67). -/
def State.decodesBy (s : State) (σ : Strategy) : Prop := s.live = true ∧ s.cfg.strategy = σ

/-- The rest state: the one after any poll that saw step 0 (R112, R114). -/
def State.atRest (s : State) : Prop :=
  s.dfltValid = true ∧ s.cycleFinished = true ∧ s.acc = 0 ∧ s.prevStep = .s0

/-- Everything but the output side of an event is the same: the frame of an operation that writes no state element. -/
def State.sameElements (s t : State) : Prop := t = s.answer t.resp t.calls

/-- R26, R92: the configuration is well formed, which its type carries, and `SCALE` is its quotient. -/
def State.configInv (s : State) : Prop := 0 < s.cfg.detents ∧ s.scale = scaleOf s.cfg

/-- R40 (i), (ii), (iv) under `CYCLE4`, and `settling`, which that strategy never writes (R35). -/
def State.cycleInv (s : State) : Prop :=
  (s.cycleFinished = true ↔ s.prevStep = .s0) ∧
  (s.cycleFinished = true → s.acc = 0) ∧
  (s.dfltValid = false → s.position = 0 ∧ s.acc = 0 ∧ s.prevStep = .s0 ∧ s.cycleFinished = true) ∧
  s.settling = false

/-- R40 under `EDGE`: the cycle state keeps its reset values; and before the first poll no settle is in progress and
the position is 0 (R144, R132). -/
def State.edgeInv (s : State) : Prop :=
  s.curStep = .s0 ∧ s.prevStep = .s0 ∧ s.acc = 0 ∧ s.cycleFinished = true ∧
  (s.dfltValid = false → s.settling = false ∧ s.position = 0)

/-- The invariant of the reachable states: it says nothing before the first CONSTRUCT. -/
def State.inv (s : State) : Prop :=
  s.live = true → s.configInv ∧
    (s.cfg.strategy = .cycle4 → s.cycleInv) ∧ (s.cfg.strategy = .edge → s.edgeInv)

/-- The state as R118 writes it: (`dflt_valid`, `ref`, `prev_step`, `acc`, `cycle_finished`, `position`). -/
def State.c4View (s : State) : Bool × Level × StepCode × Int × Bool × Int :=
  (s.dfltValid, s.ref, s.prevStep, s.acc, s.cycleFinished, s.position)

/-- The state as R144 writes it: (`dflt_valid`, `ref`, `settling`, `position`). -/
def State.edgeView (s : State) : Bool × Level × Bool × Int :=
  (s.dfltValid, s.ref, s.settling, s.position)

/-! ### Events and runs -/

/-- The event is a CONSTRUCT: `rst` is 1 (R73). -/
def isConstruct (e : Event) : Bool := rstField e.stim == 1#1

/-- What the host must present: a CONSTRUCT has a well-formed configuration (R181, R92). -/
def admitted (e : Event) : Bool := !isConstruct e || e.cfg.wellFormed

/-- A run over the events a host presents one after another: the state after the last one and the responses in order.
"A run is a finite sequence of events" (R181). -/
def runEvents : List Event → State → Host.Outcome (State × List Response) Fault Refusal
  | [], s => .next (s, [])
  | e :: es, s =>
    match step (s.present e) with
    | .next t =>
      match runEvents es t with
      | .next (u, rs) => .next (u, t.resp :: rs)
      | .fault r => .fault r
      | .refused r => .refused r
    | .fault r => .fault r
    | .refused r => .refused r

/-- The sum of `dval(dir)` over responses (R155). -/
def dirSum (rs : List Response) : Int := (rs.map fun r => r.dir.dval).sum

/-- The host's view of a completed run from `s`: presented `es`, the block answers the directions `ds` and the position
has moved by `n`. -/
def State.reports (s : State) (es : List Event) (ds : List Dir) (n : Int) : Prop :=
  ∃ u rs, runEvents es s = .next (u, rs) ∧ rs.map Response.dir = ds ∧ u.position = s.position + n

/-- The event of a POLL with given levels and gate answer (R75). -/
def pollEvent (a b : Level) (db : GateCode) : Event := encode (.pollEdge a b db)

/-- The event of `POLLSTEP s` when the reference is `r` (R76). -/
def pollStepEvent (r : Level) (s : StepCode) : Event := (AsmLine.pollStep s).assemble r

/-- The levels of a poll whose answer from the gate, if the gate is called, is `db`. -/
structure PollInput where
  a : Level
  b : Level
  db : GateCode
deriving DecidableEq, Repr

/-- The event of a poll's inputs. -/
def PollInput.event (p : PollInput) : Event := pollEvent p.a p.b p.db

/-! ### The gray ring (R119, R190) -/

/-- The signed move from one step code to the next in the ring 0,1,2,3,0, when they are equal or adjacent. -/
def ringMove : StepCode → StepCode → Option Int
  | .s0, .s0 => some 0
  | .s1, .s1 => some 0
  | .s2, .s2 => some 0
  | .s3, .s3 => some 0
  | .s0, .s1 => some 1
  | .s1, .s2 => some 1
  | .s2, .s3 => some 1
  | .s3, .s0 => some 1
  | .s1, .s0 => some (-1)
  | .s2, .s1 => some (-1)
  | .s3, .s2 => some (-1)
  | .s0, .s3 => some (-1)
  | .s0, .s2 => none
  | .s2, .s0 => none
  | .s1, .s3 => none
  | .s3, .s1 => none

/-- The net number of ring moves of a sequence of step codes from `p`; none when two consecutive codes are neither equal
nor adjacent. -/
def winding : StepCode → List StepCode → Option Int
  | _, [] => some 0
  | p, c :: cs =>
    match ringMove p c, winding c cs with
    | some d, some w => some (d + w)
    | _, _ => none

/-- The step codes from `p` on are gray-valid (R119): every two consecutive ones are equal or ring-adjacent. -/
def grayFrom (p : StepCode) (cs : List StepCode) : Prop := (winding p cs).isSome = true

/-! ### The premise `NoSkip` on the input trace (R190) -/

/-- The step codes of the decoding polls of a trace under `CYCLE4`, in order, up to the end of the lifetime: what the
block classifies, read off the events alone. `ref` is the level recorded before the trace, none before the first POLL,
which records contact A's level and decodes nothing (R102, R103). NOPs and read-outs are no polls, and a CONSTRUCT ends
the lifetime (R94). -/
def decodingSteps : Option Level → List Event → List StepCode
  | _, [] => []
  | ref, e :: es =>
    match decode .cycle4 e with
    | .construct _ => []
    | .pollC4 a b =>
      match ref with
      | none => decodingSteps (some a) es
      | some r => stepOf r a b :: decodingSteps (some r) es
    | .nop => decodingSteps ref es
    | .pollEdge _ _ _ => decodingSteps ref es
    | .getposDet => decodingSteps ref es
    | .getposDeg => decodingSteps ref es

/-- Equal or ring-adjacent steps (R190). -/
def ringNear (p c : StepCode) : Prop := (ringMove p c).isSome = true

/-- The events begin a lifetime under `CYCLE4`. -/
def beginsCycle4 (e : Event) : Prop := isConstruct e = true ∧ e.cfg.strategy.getD .cycle4 = .cycle4

/-- The premise `NoSkip` of R190 on the input trace: in every lifetime under `CYCLE4`, "every two consecutive decoding
polls classify to equal or ring-adjacent steps". -/
def NoSkip (es : List Event) : Prop :=
  ∀ e rest, e :: rest <:+ es → beginsCycle4 e → (decodingSteps none rest).IsChain ringNear

/-- The last decoding poll of a trace, if there is one, saw step 0. -/
def endsAtRest (cs : List StepCode) : Prop := cs = [] ∨ cs.getLast? = some .s0

/-! ### What no response can show (R28, R31, R41, U11) -/

/-- Two states that differ at most in `a_s`, `b_s`, `cur_step`, the output side, the count of free values, the events
still to come, and `ref` while no default level is recorded. -/
def sameForResponses (s t : State) : Prop :=
  t = { s with aS := t.aS, bS := t.bS, curStep := t.curStep, resp := t.resp, calls := t.calls, draws := t.draws,
               inbox := t.inbox, ref := t.ref } ∧
  (s.dfltValid = true → t.ref = s.ref)

/-- What two runs show their hosts: the responses, or where they stop. -/
def shown (o : Host.Outcome (State × List Response) Fault Refusal) : Option (List Response) × Option Refusal :=
  match o with
  | .next (_, rs) => (some rs, none)
  | .fault _ => (none, none)
  | .refused r => (none, some r)

end Sys2Proof.Machine
end

