-- ==== Sys2Proof/Certificates/Slice0/Obligations.lean ====
section
/-! DEFINITION. The statements about the machine, one `def Obligations.<Name> : Prop` each. They follow the files of
spec/: encoding (30), CONSTRUCT and NOP (40), POLL.C4 (41), POLL.EDGE (42), GETPOS (43), and the rules about the
whole block (10, 00, 60, 70). -/

open Sys2Proof Sys2Proof.Machine

/-! ### Events and encoding (spec/30_encoding.md) -/

/-- R65, R57: the next event is decoded under the strategy of the configuration and executed on the state without it;
with nothing presented the state holds. The event queue is the model's own form of the host's stream of events, and the
second clause the model's choice (notes/assumptions/5.md). -/
def Obligations.StepRunsTheDecodedOperation : Prop :=
  (∀ (s : State) (e : Event) (rest : List Event), s.inbox = e :: rest →
    step s = exec (decode s.cfg.strategy e) { s with inbox := rest }) ∧
  (∀ s : State, s.inbox = [] → step s = .next s)

/-- R67: each of the 128 words selects exactly one row of the opcode table under each strategy, and the decoder gives an
operation of that row. -/
def Obligations.OpcodeTableDisjointAndCovering : Prop :=
  ∀ (σ : Strategy) (e : Event),
    (decode σ e).row ∈ opTable ∧ (decode σ e).row.selects σ e.stim = true ∧
    ∀ r ∈ opTable, r.selects σ e.stim = true → r = (decode σ e).row

/-- R66, R67, R72: decoding what the encoder writes gives the operation back with every operand, under every strategy it
belongs to; encoding what the decoder reads decodes to the same operation again; and two operations of one strategy
with one event are one operation. -/
def Obligations.DecodeEncodeAgree : Prop :=
  (∀ (σ : Strategy) (i : Instr), i.under σ = true → decode σ (encode i) = i) ∧
  (∀ (σ : Strategy) (e : Event), (decode σ e).under σ = true ∧
    decode σ (encode (decode σ e)) = decode σ e) ∧
  (∀ (σ : Strategy) (i j : Instr), i.under σ = true → j.under σ = true → encode i = encode j → i = j)

/-- R73: with `stim[6]` = 1 the word is CONSTRUCT whatever its other bits hold, under either strategy, and the step is
that CONSTRUCT alone. -/
def Obligations.RstWinsOverOp : Prop :=
  ∀ (σ : Strategy) (e : Event) (s : State), e.stim.getLsbD 6 = true →
    decode σ e = .construct e.cfg ∧ step (s.present e) = exec (.construct e.cfg) s

/-- R72 (a), (c), R74: the fields an operation does not read are ignored. -/
def Obligations.UnreadFieldsAreIgnored : Prop :=
  ∀ (σ : Strategy) (e e' : Event), rstField e.stim = rstField e'.stim →
    (rstField e.stim = 1#1 → e.cfg = e'.cfg → decode σ e = decode σ e') ∧
    (rstField e.stim = 0#1 → opField e.stim = opField e'.stim →
      (opField e.stim ≠ 0b01#2 → decode σ e = decode σ e') ∧
      (aField e.stim = aField e'.stim → bField e.stim = bField e'.stim →
        (σ = .cycle4 → decode σ e = decode σ e') ∧
        (dbField e.stim = dbField e'.stim → decode σ e = decode σ e')))

/-- R78: the worked encodings, each word written out bit by bit (`rst`, `op`, `db`, `b`, `a`). -/
def Obligations.WorkedEncodings : Prop :=
  ∀ c : CtorInputs,
    decode .cycle4 ⟨0b0010001#7, c⟩ = .pollC4 .high .low ∧
    decode .edge ⟨0b0010001#7, c⟩ = .pollEdge .high .low .notStarted ∧
    decode .edge ⟨0b0011010#7, c⟩ = .pollEdge .low .high .finished ∧
    decode .edge ⟨0b0010111#7, c⟩ = .pollEdge .high .high .ongoing ∧
    decode .edge ⟨0b0011111#7, c⟩ = .pollEdge .high .high .reserved3 ∧
    gateFinished .reserved3 = false ∧
    ∀ σ, decode σ ⟨0b0110000#7, c⟩ = .getposDeg ∧ decode σ ⟨0b1000000#7, c⟩ = .construct c ∧
      decode σ ⟨0b1011011#7, c⟩ = .construct c ∧ decode σ ⟨0b0001111#7, c⟩ = .nop

/-- R71: the codes of `dir` are the 2-bit two's complement of the weights, and 0b10 is never driven: in no state that a
step reaches. -/
def Obligations.DirCodes : Prop :=
  (Dir.negative.code = 0b11#2 ∧ Dir.neutral.code = 0b00#2 ∧ Dir.positive.code = 0b01#2) ∧
  (∀ d : Dir, d.code = BitVec.ofInt 2 d.dval ∧ d.code.toInt = d.dval) ∧
  (∀ s t : State, step s = .next t → t.resp.dir.code ≠ 0b10#2)

/-- R76: `POLLSTEP s` puts the levels on the contacts that classify to step `s` under the reference, and only these do;
its event is a POLL of these levels, with the words the rule lists; `REST` is `POLLSTEP 0`; and `GETPOS <unit>` is the
read-out in that unit. -/
def Obligations.MacrosExpandAsListed : Prop :=
  ∀ (r : Level) (c : StepCode),
    stepOf r (pollStepLevels r c).1 (pollStepLevels r c).2 = c ∧
    (∀ a b : Level, stepOf r a b = c → (a, b) = pollStepLevels r c) ∧
    decode .cycle4 ((AsmLine.pollStep c).assemble r) =
      .pollC4 (pollStepLevels r c).1 (pollStepLevels r c).2 ∧
    ([.s0, .s1, .s2, .s3].map fun k => ((AsmLine.pollStep k).assemble .low).stim) =
      [0x10#7, 0x11#7, 0x13#7, 0x12#7] ∧
    ([.s0, .s1, .s2, .s3].map fun k => ((AsmLine.pollStep k).assemble .high).stim) =
      [0x13#7, 0x12#7, 0x10#7, 0x11#7] ∧
    (AsmLine.rest).assemble r = (AsmLine.pollStep .s0).assemble r ∧
    ∀ σ, decode σ ((AsmLine.getpos .detents).assemble r) = .getposDet ∧
      decode σ ((AsmLine.getpos .degrees).assemble r) = .getposDeg

/-! ### CONSTRUCT and NOP (spec/40_construct_and_hold.md) -/

/-- R90: a well-formed CONSTRUCT completes in every state, also before any instance exists, with the configuration
copied (omitted inputs at their defaults), the scale factor computed by the one division, and the mutable state at its
reset values. Nothing is said of `a_s`, `b_s` and `ref`, which the rule leaves unspecified. -/
def Obligations.ConstructWritesTheInitialState : Prop :=
  ∀ (c : CtorInputs) (s : State), c.wellFormed = true →
    ∃ t, exec (.construct c) s = .next t ∧
      t.live = true ∧
      (t.cfg.pinA = c.pinA ∧ t.cfg.pinB = c.pinB ∧ t.cfg.debounceMs = c.debounceMs.getD 70 ∧
        t.cfg.detents = c.detents.getD 24 ∧ t.cfg.maxAngle = c.maxAngle.getD 360 ∧
        t.cfg.strategy = c.strategy.getD .cycle4) ∧
      t.scale = Config.num.div (Config.num.ofNat (c.maxAngle.getD 360))
        (Config.num.ofNat (c.detents.getD 24)) ∧
      t.dfltValid = false ∧ t.curStep = .s0 ∧ t.prevStep = .s0 ∧ t.acc = 0 ∧
      t.cycleFinished = true ∧ t.settling = false ∧ t.position = 0 ∧
      t.resp = ⟨.neutral, false, .none⟩ ∧ t.calls = [] ∧ t.inbox = s.inbox

/-- R92: a CONSTRUCT is refused exactly with `cfg_detents` = 0, and no other input is constrained; and no state, live or
not, holds a configuration with zero detents. -/
def Obligations.ConstructRefusedExactlyOnZeroDetents : Prop :=
  ∀ (c : CtorInputs) (s : State),
    (c.wellFormed = true ↔ 0 < c.detents.getD 24) ∧
    (exec (.construct c) s = .refused .zeroDetents ↔ c.detents = some 0) ∧
    ((∃ t, exec (.construct c) s = .next t) ↔ c.detents ≠ some 0) ∧
    0 < s.cfg.detents

/-- R91: NOP writes no state element; the response is Neutral, no gate request, no value, and no collaborator is
called. -/
def Obligations.NopHoldsEverything : Prop :=
  ∀ s : State, s.live = true →
    exec .nop s = .next { s with resp := ⟨.neutral, false, .none⟩, calls := [] }

/-- R94, R185: whatever ran before, and whichever states it left, two well-formed CONSTRUCTs with the same inputs start
lifetimes that answer every later stream of events alike. What the free values of `a_s`, `b_s` and `ref` are cannot be
seen. -/
def Obligations.ConstructEndsTheLifetimeBefore : Prop :=
  ∀ (e : Event) (s s' : State) (es : List Event), isConstruct e = true → e.cfg.wellFormed = true →
    shown (runEvents (e :: es) s) = shown (runEvents (e :: es) s')

/-- R187: with no instance, an event that is no CONSTRUCT is refused, and so is every run that begins with one; a
well-formed CONSTRUCT makes the instance. -/
def Obligations.NothingRunsBeforeConstruct : Prop :=
  ∀ (s : State) (e : Event), s.live = false →
    (isConstruct e = false → step (s.present e) = .refused .noneConstructed ∧
      ∀ es, runEvents (e :: es) s = .refused .noneConstructed) ∧
    (isConstruct e = true → e.cfg.wellFormed = true →
      ∃ t, step (s.present e) = .next t ∧ t.live = true)

/-- R186: the state after reset is what the plain CONSTRUCT of R75 leaves in any state, but for the three elements left
unspecified and the model's own fields. The pin identifiers 2 and 3 and the levels in these three elements are the
model's choice (notes/assumptions/2.md, notes/assumptions/3.md). -/
def Obligations.ResetIsThePlainConstruct : Prop :=
  ∀ s t : State, exec (.construct { pinA := 2, pinB := 3 }) s = .next t →
    State.reset = { t with aS := State.reset.aS, bS := State.reset.bS, ref := State.reset.ref,
                           inbox := State.reset.inbox, draws := State.reset.draws }

/-! ### POLL.C4 (spec/41_poll_cycle4.md) -/

/-- R104, with the off-default bits of R103: the step lookup against the one recorded level, as a table and as bits;
steps that follow each other in either order differ in exactly one contact; and a decoding poll writes the step to
`cur_step`. -/
def Obligations.ClassifyIsTheStepTable : Prop :=
  (∀ l r : Level, offDefault l r = (l.code ^^^ r.code == 1#1)) ∧
  (classify false false = .s0 ∧ classify true false = .s1 ∧ classify true true = .s2 ∧
    classify false true = .s3) ∧
  (∀ aoff boff : Bool, (classify aoff boff).code.getLsbD 1 = boff ∧
    (classify aoff boff).code.getLsbD 0 = (aoff != boff)) ∧
  (∀ p c : StepCode, ringMove p c = some 1 ∨ ringMove p c = some (-1) →
    ((p.offsets.1 != c.offsets.1) != (p.offsets.2 != c.offsets.2)) = true ∧
    classify p.offsets.1 p.offsets.2 = p) ∧
  (∀ (a b : Level) (s : State), s.decodesBy .cycle4 → s.dfltValid = true →
    ∃ t, exec (.pollC4 a b) s = .next t ∧
      t.curStep = classify (offDefault a s.ref) (offDefault b s.ref))

/-- R107: the transition lookup, and what a poll of branch (b) does with it, the ignored pairs too. -/
def Obligations.DeltaIsTheTransitionTable : Prop :=
  (∀ p c : StepCode, (delta p c = 1 ↔ (p, c) ∈ [(.s0, .s1), (.s1, .s2), (.s2, .s3)]) ∧
    (delta p c = -1 ↔ (p, c) ∈ [(.s2, .s1), (.s3, .s2), (.s0, .s3)]) ∧
    (delta p c = 1 ∨ delta p c = -1 ∨ delta p c = 0)) ∧
  (∀ (a b : Level) (s : State), s.decodesBy .cycle4 → s.dfltValid = true →
    s.cycleFinished = false → stepOf s.ref a b ≠ .s0 →
    ∃ t, exec (.pollC4 a b) s = .next t ∧ t.acc = s.acc + delta s.prevStep (stepOf s.ref a b) ∧
      t.prevStep = stepOf s.ref a b ∧ t.resp.dir = .neutral)

/-- R102: the first POLL.C4 writes the sample pair and contact A's level as the default, answers Neutral and writes
nothing else; if contact B was at the other level, the same levels then read as step 3, and otherwise as step 0. -/
def Obligations.FirstPollRecordsContactA : Prop :=
  ∀ (a b : Level) (s : State), s.decodesBy .cycle4 → s.dfltValid = false →
    ∃ t, exec (.pollC4 a b) s = .next t ∧
      t = { s with aS := a, bS := b, ref := a, dfltValid := true,
                   resp := ⟨.neutral, false, .none⟩, calls := [.samplePins s.cfg.pinA s.cfg.pinB] } ∧
      (b ≠ a → stepOf t.ref a b = .s3) ∧ (b = a → stepOf t.ref a b = .s0)

/-- R118: POLL.C4 as one function, row by row, with the frame: nothing else changes but the output side. -/
def Obligations.PollC4AsOneFunction : Prop :=
  ∀ (a b : Level) (s : State) (c : StepCode), s.decodesBy .cycle4 →
    c = classify (decide (a ≠ s.ref)) (decide (b ≠ s.ref)) →
    ∃ t, exec (.pollC4 a b) s = .next t ∧
      (t.aS = a ∧ t.bS = b) ∧
      (s.dfltValid = false → t.c4View = (true, a, s.prevStep, s.acc, s.cycleFinished, s.position) ∧
        t.resp.dir = .neutral ∧ t.curStep = s.curStep) ∧
      (s.dfltValid = true → t.curStep = c) ∧
      (s.dfltValid = true → c ≠ .s0 → s.cycleFinished = true →
        t.c4View = (true, s.ref, c, s.acc, false, s.position) ∧ t.resp.dir = .neutral) ∧
      (s.dfltValid = true → c ≠ .s0 → s.cycleFinished = false →
        t.c4View = (true, s.ref, c, s.acc + delta s.prevStep c, false, s.position) ∧
          t.resp.dir = .neutral) ∧
      (s.dfltValid = true → c = .s0 → 0 < s.acc →
        t.c4View = (true, s.ref, .s0, 0, true, s.position + 1) ∧ t.resp.dir = .positive) ∧
      (s.dfltValid = true → c = .s0 → s.acc < 0 →
        t.c4View = (true, s.ref, .s0, 0, true, s.position - 1) ∧ t.resp.dir = .negative) ∧
      (s.dfltValid = true → c = .s0 → s.acc = 0 →
        t.c4View = (true, s.ref, .s0, 0, true, s.position) ∧ t.resp.dir = .neutral) ∧
      (t.resp.gateReq = false ∧ t.resp.val = .none ∧
        t.calls = [.samplePins s.cfg.pinA s.cfg.pinB]) ∧
      (t.live = s.live ∧ t.cfg = s.cfg ∧ t.scale = s.scale ∧ t.settling = s.settling ∧
        t.inbox = s.inbox ∧ t.draws = s.draws)

/-- R112: whatever the state, a decoding poll at step 0 leaves the rest state, and from there the forward, the reverse
and the skipping cycles of the rule report what it says. -/
def Obligations.StepZeroHeals : Prop :=
  ∀ (a b : Level) (s : State), s.decodesBy .cycle4 → s.dfltValid = true → stepOf s.ref a b = .s0 →
    ∃ t, exec (.pollC4 a b) s = .next t ∧ t.atRest ∧ t.decodesBy .cycle4 ∧ t.ref = s.ref ∧
      t.reports ([.s1, .s2, .s3, .s0].map (pollStepEvent s.ref))
        [.neutral, .neutral, .neutral, .positive] 1 ∧
      t.reports ([.s3, .s2, .s1, .s0].map (pollStepEvent s.ref))
        [.neutral, .neutral, .neutral, .negative] (-1) ∧
      t.reports ([.s1, .s3, .s0].map (pollStepEvent s.ref)) [.neutral, .neutral, .neutral] 0 ∧
      t.reports ([.s2, .s3, .s0].map (pollStepEvent s.ref)) [.neutral, .neutral, .positive] 1 ∧
      t.reports ([.s1, .s2, .s0].map (pollStepEvent s.ref)) [.neutral, .neutral, .positive] 1

/-- R114: a clean cycle forward reports Positive once, on its fourth poll, and a clean cycle in reverse Negative; the
accumulator stands at +2 or -2 when the closing poll comes. -/
def Obligations.CleanCycleReportsOnce : Prop :=
  ∀ s : State, s.decodesBy .cycle4 → s.atRest →
    (∃ t rs, runEvents ([.s1, .s2, .s3].map (pollStepEvent s.ref)) s = .next (t, rs) ∧ t.acc = 2) ∧
    s.reports ([.s1, .s2, .s3, .s0].map (pollStepEvent s.ref))
      [.neutral, .neutral, .neutral, .positive] 1 ∧
    (∃ t rs, runEvents ([.s3, .s2, .s1].map (pollStepEvent s.ref)) s = .next (t, rs) ∧ t.acc = -2) ∧
    s.reports ([.s3, .s2, .s1, .s0].map (pollStepEvent s.ref))
      [.neutral, .neutral, .neutral, .negative] (-1)

/-- R115: an advance that retraces the steps it was seen at (a sequence of non-zero steps that reads the same backwards,
skips included), or a gray-valid one whose net move is zero, whichever side it enters on, reports nothing and leaves the
position, and the accumulator stands at 0 when the closing poll comes. An advance that skips on one way alone (1,3,2,1,0)
is neither, and nothing is said of it here. The rule's own two traces are 1,2,1,0, with the accumulator at 1 after step
2, and 1,0. -/
def Obligations.ReversedCycleReportsNothing : Prop :=
  ∀ s : State, s.decodesBy .cycle4 → s.atRest →
    (∀ cs : List StepCode, .s0 ∉ cs → (cs.reverse = cs ∨ winding .s0 (cs ++ [.s0]) = some 0) →
      (∃ t rs, runEvents (cs.map (pollStepEvent s.ref)) s = .next (t, rs) ∧ t.acc = 0) ∧
      s.reports ((cs ++ [StepCode.s0]).map (pollStepEvent s.ref)) (List.replicate (cs.length + 1) .neutral) 0) ∧
    (∃ t rs, runEvents ([.s1, .s2].map (pollStepEvent s.ref)) s = .next (t, rs) ∧ t.acc = 1) ∧
    s.reports ([.s1, .s2, .s1, .s0].map (pollStepEvent s.ref))
      [.neutral, .neutral, .neutral, .neutral] 0 ∧
    s.reports ([.s1, .s0].map (pollStepEvent s.ref)) [.neutral, .neutral] 0

/-- R116: a poll that sees the levels of the decoding poll before it changes no state element and answers Neutral. -/
def Obligations.RepeatedSampleChangesNothing : Prop :=
  ∀ (a b : Level) (s t : State), s.decodesBy .cycle4 → s.dfltValid = true →
    exec (.pollC4 a b) s = .next t →
    exec (.pollC4 a b) t =
      .next { t with resp := ⟨.neutral, false, .none⟩, calls := [.samplePins t.cfg.pinA t.cfg.pinB] }

/-- R119: the closed form of a gray-valid cycle from the rest state, whatever the reference, with `first` and `last` its
first and last non-zero steps; and that it fails for a sequence that is not gray-valid (1,3). -/
def Obligations.GrayValidCycleClosedForm : Prop :=
  ∀ s : State, s.decodesBy .cycle4 → s.atRest →
    (∀ (cs : List StepCode) (first last : StepCode),
      cs.head? = some first → cs.getLast? = some last → .s0 ∉ cs → grayFrom .s0 (cs ++ [.s0]) →
      (first = .s1 ∨ first = .s3) ∧ (last = .s1 ∨ last = .s3) ∧
      ∃ t rs u, runEvents (cs.map (pollStepEvent s.ref)) s = .next (t, rs) ∧
        t.acc = last.toInt - first.toInt ∧ t.position = s.position ∧
        (∀ r ∈ rs, r.dir = .neutral) ∧
        step (t.present (pollStepEvent s.ref .s0)) = .next u ∧ u.atRest ∧
        (first = .s1 → last = .s3 → u.resp.dir = .positive ∧ u.position = s.position + 1) ∧
        (first = .s3 → last = .s1 → u.resp.dir = .negative ∧ u.position = s.position - 1) ∧
        (first = last → u.resp.dir = .neutral ∧ u.position = s.position)) ∧
    (∃ t rs, runEvents ([.s1, .s3].map (pollStepEvent s.ref)) s = .next (t, rs) ∧ t.acc = 0)

/-- R119, R114, and R190 for bare POLLSTEPs: from the rest state, over any
sequence of steps that skips none and ends at step 0, the position moves by exactly a quarter of the net number of ring
moves. -/
def Obligations.NoSkipCountsEveryDetent : Prop :=
  ∀ (s : State) (cs : List StepCode) (w : Int), s.decodesBy .cycle4 → s.atRest →
    winding .s0 cs = some w → (cs = [] ∨ cs.getLast? = some .s0) →
    ∃ t rs, runEvents (cs.map (pollStepEvent s.ref)) s = .next (t, rs) ∧ t.atRest ∧
      4 * (t.position - s.position) = w

/-- R190, R192: the premise `NoSkip` on the input trace, whose events may be POLLs at any levels, NOPs and read-outs.
(a) In a lifetime that meets it, whose first decoding poll sees the rest step or one next to it and whose last sees the
rest step, every detent is counted: the position is a quarter of the net ring moves. (b) The same from any rest state
inside a lifetime. (c) Without the premise the trace still runs, and decoding recovers: after any trace whose last
decoding poll sees step 0 the block is at rest, so that (b) holds of what follows. (d) And the premise is needed: polls
that skip can lose a detent (2,0) or report the other sign (two cycles forward seen as 3,2,0). -/
def Obligations.NoSkipOfTheTraceCountsEveryDetent : Prop :=
  (∀ (e : Event) (es : List Event) (s : State), beginsCycle4 e → e.cfg.wellFormed = true →
    (∀ d ∈ es, isConstruct d = false) → NoSkip (e :: es) →
    (∀ c, (decodingSteps none es).head? = some c → ringNear .s0 c) →
    endsAtRest (decodingSteps none es) →
    ∃ t rs w, runEvents (e :: es) s = .next (t, rs) ∧
      winding .s0 (decodingSteps none es) = some w ∧ 4 * t.position = w) ∧
  (∀ (es : List Event) (s : State), s.decodesBy .cycle4 → (∀ d ∈ es, isConstruct d = false) →
    (s.atRest → (StepCode.s0 :: decodingSteps (some s.ref) es).IsChain ringNear →
      endsAtRest (decodingSteps (some s.ref) es) →
      ∃ t rs w, runEvents es s = .next (t, rs) ∧ t.atRest ∧
        winding .s0 (decodingSteps (some s.ref) es) = some w ∧ 4 * (t.position - s.position) = w) ∧
    (s.dfltValid = true → (decodingSteps (some s.ref) es).getLast? = some .s0 →
      ∃ t rs, runEvents es s = .next (t, rs) ∧ t.atRest ∧ t.decodesBy .cycle4 ∧ t.ref = s.ref) ∧
    (s.atRest → decodingSteps (some s.ref) es = [.s2, .s0] →
      ∃ t rs, runEvents es s = .next (t, rs) ∧ t.position = s.position) ∧
    (s.atRest → decodingSteps (some s.ref) es = [.s3, .s2, .s0] →
      ∃ t rs, runEvents es s = .next (t, rs) ∧ t.position = s.position - 1))

/-- R113: under CYCLE4, over any stream of events with no CONSTRUCT, the gate is never requested, `settling` is never
written, the field `db` is never read, and neither it nor the debounce window changes any answer. -/
def Obligations.Cycle4NeverUsesTheGate : Prop :=
  ∀ (es es' : List Event) (s : State) (window : Nat), s.cfg.strategy = .cycle4 →
    (∀ e ∈ es, isConstruct e = false) →
    List.Forall₂ (fun e e' => rstField e.stim = rstField e'.stim ∧ opField e.stim = opField e'.stim ∧
      bField e.stim = bField e'.stim ∧ aField e.stim = aField e'.stim) es es' →
    runEvents es s = runEvents es' s ∧
    shown (runEvents es' { s with cfg := { s.cfg with debounceMs := window } }) =
      shown (runEvents es s) ∧
    ∀ t rs, runEvents es s = .next (t, rs) →
      t.settling = s.settling ∧ ∀ r ∈ rs, r.gateReq = false

/-- R192, R30: under CYCLE4 the reference recorded by the first poll stays over every stream of events with no
CONSTRUCT; and with the inverse reference every step code is shifted by two. -/
def Obligations.ReferenceIsFixedUnderCycle4 : Prop :=
  (∀ (es : List Event) (s t : State) (rs : List Response), s.cfg.strategy = .cycle4 →
    s.dfltValid = true → (∀ e ∈ es, isConstruct e = false) → runEvents es s = .next (t, rs) →
    t.ref = s.ref ∧ t.dfltValid = true) ∧
  (∀ r a b : Level, (stepOf r.inv a b).code = (stepOf r a b).code + 2#2)

/-- R110, R138: over a POLL of either strategy the position changes exactly when the result is not Neutral, and by the
weight of the result; under CYCLE4 that needs a decoding poll at step 0 with a non-zero accumulator, under EDGE a poll
that calls the gate and sees `Finished`. -/
def Obligations.PositionMovesWithTheResult : Prop :=
  ∀ s t : State,
    (∀ a b, exec (.pollC4 a b) s = .next t →
      t.position = s.position + t.resp.dir.dval ∧
      (t.position ≠ s.position ↔ t.resp.dir ≠ .neutral) ∧
      (t.resp.dir ≠ .neutral ↔ s.dfltValid = true ∧ stepOf s.ref a b = .s0 ∧ s.acc ≠ 0)) ∧
    (∀ a b db, exec (.pollEdge a b db) s = .next t →
      t.position = s.position + t.resp.dir.dval ∧
      (t.position ≠ s.position ↔ t.resp.dir ≠ .neutral) ∧
      (t.resp.dir ≠ .neutral ↔ t.resp.gateReq = true ∧ db = .finished))

/-! ### POLL.EDGE (spec/42_poll_edge.md) -/

/-- R132: the first POLL.EDGE records contact A's level, does not call the gate and answers Neutral, whatever `db` is;
if contact B was at the other level, the same levels with `Finished` then report Positive with no motion. -/
def Obligations.FirstEdgePollRecordsContactA : Prop :=
  ∀ (a b : Level) (db : GateCode) (s : State), s.decodesBy .edge → s.dfltValid = false →
    ∃ t, exec (.pollEdge a b db) s = .next t ∧
      t = { s with aS := a, bS := b, ref := a, dfltValid := true,
                   resp := ⟨.neutral, false, .none⟩, calls := [.samplePins s.cfg.pinA s.cfg.pinB] } ∧
      (a ≠ b → ∃ u, exec (.pollEdge a b .finished) t = .next u ∧ u.resp.gateReq = true ∧
        u.resp.dir = .positive)

/-- R144: POLL.EDGE as one function, row by row, with the frame: nothing else changes but the output side. -/
def Obligations.PollEdgeAsOneFunction : Prop :=
  ∀ (a b : Level) (db : GateCode) (s : State), s.decodesBy .edge →
    ∃ t, exec (.pollEdge a b db) s = .next t ∧
      (t.aS = a ∧ t.bS = b) ∧
      (s.dfltValid = false → t.edgeView = (true, a, s.settling, s.position) ∧
        t.resp = ⟨.neutral, false, .none⟩) ∧
      (s.dfltValid = true → s.settling = false → b = s.ref →
        t.edgeView = (true, s.ref, false, s.position) ∧ t.resp = ⟨.neutral, false, .none⟩) ∧
      (s.dfltValid = true → (s.settling = true ∨ b ≠ s.ref) → db ≠ .finished →
        t.edgeView = (true, s.ref, true, s.position) ∧ t.resp = ⟨.neutral, true, .none⟩) ∧
      (s.dfltValid = true → (s.settling = true ∨ b ≠ s.ref) → db = .finished → a ≠ b →
        t.edgeView = (true, b, false, s.position + 1) ∧ t.resp = ⟨.positive, true, .none⟩) ∧
      (s.dfltValid = true → (s.settling = true ∨ b ≠ s.ref) → db = .finished → a = b →
        t.edgeView = (true, b, false, s.position - 1) ∧ t.resp = ⟨.negative, true, .none⟩) ∧
      (t.live = s.live ∧ t.cfg = s.cfg ∧ t.scale = s.scale ∧ t.curStep = s.curStep ∧
        t.prevStep = s.prevStep ∧ t.acc = s.acc ∧ t.cycleFinished = s.cycleFinished ∧
        t.inbox = s.inbox ∧ t.draws = s.draws)

/-- R134, R135: the gate is called in exactly the polls in which a settle is in progress, with the pin of contact B and the
window of the configuration, and after the pin sample (R57 (5)); in every other poll `db` is not read; and the number of
waiting polls is not bounded. -/
def Obligations.GateIsCalledExactlyWhileSettling : Prop :=
  (∀ (a b : Level) (db : GateCode) (s t : State), exec (.pollEdge a b db) s = .next t →
    (t.resp.gateReq = true ↔ s.dfltValid = true ∧ (s.settling = true ∨ b ≠ s.ref)) ∧
    (t.resp.gateReq = true → t.calls = [.samplePins s.cfg.pinA s.cfg.pinB,
      .beginOrContinue s.cfg.pinB s.cfg.debounceMs]) ∧
    (t.resp.gateReq = true → db ≠ .finished → t.resp.dir = .neutral ∧
      t = { s with aS := a, bS := b, settling := true, resp := t.resp, calls := t.calls }) ∧
    (t.resp.gateReq = false → t.calls = [.samplePins s.cfg.pinA s.cfg.pinB] ∧
      ∀ db', exec (.pollEdge a b db') s = .next t)) ∧
  (∀ (n : Nat) (a b : Level) (s : State), s.decodesBy .edge → s.dfltValid = true →
    s.settling = true →
    ∃ t rs, runEvents (List.replicate n (pollEvent a b .ongoing)) s = .next (t, rs) ∧
      t.settling = true ∧ (∀ r ∈ rs, r.gateReq = true ∧ r.dir = .neutral))

/-- R140: over any stream of events with no CONSTRUCT in which no poll that calls the gate is answered `Finished`, the
reference and the position do not change and every answer is Neutral, whatever the contacts do and however long it is. -/
def Obligations.NothingAdvancesBetweenFinished : Prop :=
  ∀ (es : List Event) (s t : State) (rs : List Response), s.decodesBy .edge → s.dfltValid = true →
    (∀ e ∈ es, isConstruct e = false) → runEvents es s = .next (t, rs) →
    (∀ p ∈ es.zip rs, ¬ (p.2.gateReq = true ∧ dbField p.1.stim = 2#2)) →
    t.ref = s.ref ∧ t.position = s.position ∧ ∀ r ∈ rs, r.dir = .neutral

/-- R143, R136, R137, R138: one settle, from the poll that sees the transition over any number of polls at any levels
that are not told `Finished` to the poll that is: the gate is called once in each, the one result is that of the
settled levels, and the next poll at the settled level of contact B calls nothing. -/
def Obligations.OneResultPerSettledEdge : Prop :=
  ∀ (s : State) (p q : PollInput) (ws : List PollInput), s.decodesBy .edge → s.dfltValid = true →
    s.settling = false → p.b ≠ s.ref → p.db ≠ .finished → (∀ w ∈ ws, w.db ≠ .finished) →
    q.db = .finished →
    ∃ t rs, runEvents ((p :: ws).map PollInput.event ++ [q.event]) s = .next (t, rs) ∧
      (∀ r ∈ rs, r.gateReq = true) ∧
      rs.map Response.dir = List.replicate (ws.length + 1) .neutral ++ [edgeDir q.a q.b] ∧
      t.ref = q.b ∧ t.settling = false ∧ t.position = s.position + (edgeDir q.a q.b).dval ∧
      ∀ a db, ∃ u, exec (.pollEdge a q.b db) t = .next u ∧ u.resp.gateReq = false ∧
        u.resp.dir = .neutral

/-- R141: one full gray cycle, from any reference. With contact A leading, POLL.EDGE reports Negative at each of its two
edges of contact B where POLL.C4 reports Positive once; with contact B leading, Positive twice against Negative once. -/
def Obligations.EdgeAndCycle4DifferInCountAndSign : Prop :=
  ∀ s : State, s.dfltValid = true →
    (s.decodesBy .edge → s.settling = false →
      s.reports [pollEvent s.ref.inv s.ref .notStarted, pollEvent s.ref.inv s.ref.inv .finished,
          pollEvent s.ref s.ref.inv .notStarted, pollEvent s.ref s.ref .finished]
        [.neutral, .negative, .neutral, .negative] (-2) ∧
      s.reports [pollEvent s.ref s.ref.inv .finished, pollEvent s.ref.inv s.ref.inv .notStarted,
          pollEvent s.ref.inv s.ref .finished, pollEvent s.ref s.ref .notStarted]
        [.positive, .neutral, .positive, .neutral] 2) ∧
    (s.decodesBy .cycle4 → s.atRest →
      s.reports [pollEvent s.ref.inv s.ref .notStarted, pollEvent s.ref.inv s.ref.inv .finished,
          pollEvent s.ref s.ref.inv .notStarted, pollEvent s.ref s.ref .finished]
        [.neutral, .neutral, .neutral, .positive] 1 ∧
      s.reports [pollEvent s.ref s.ref.inv .finished, pollEvent s.ref.inv s.ref.inv .notStarted,
          pollEvent s.ref.inv s.ref .finished, pollEvent s.ref s.ref .notStarted]
        [.neutral, .neutral, .neutral, .negative] (-1))

/-! ### GETPOS (spec/43_getposition.md) -/

/-- R151: GETPOS.DET answers the exact integer and changes no state element. -/
def Obligations.GetposDetAnswersThePosition : Prop :=
  ∀ s : State, s.live = true →
    exec .getposDet s = .next { s with resp := ⟨.neutral, false, .int s.position⟩, calls := [] }

/-- R152: GETPOS.DEG answers one multiplication of the converted position by the stored scale factor and changes no state
element; in every reachable state that is the detents times the quotient of the configuration. -/
def Obligations.GetposDegAnswersTheProduct : Prop :=
  ∀ s : State, s.live = true →
    exec .getposDeg s = .next { s with
      resp := ⟨.neutral, false, .num (Config.num.mul (Config.num.ofInt s.position) s.scale)⟩,
      calls := [] } ∧
    (s.inv → Config.num.mul (Config.num.ofInt s.position) s.scale =
      Config.num.mul (Config.num.ofInt s.position)
        (Config.num.div (Config.num.ofNat s.cfg.maxAngle) (Config.num.ofNat s.cfg.detents)))

/-- R10, R152 (the source's example, 95_test_vectors.md X1): with 24 detents and 360 degrees, after a CONSTRUCT and any
events that leave the position 3, the read-out in degrees is the number 45.0. -/
def Obligations.ThreeDetentsAreFortyFiveDegrees : Prop :=
  ∀ (e : Event) (es : List Event) (s t : State) (rs : List Response), isConstruct e = true →
    e.cfg.detents.getD 24 = 24 → e.cfg.maxAngle.getD 360 = 360 →
    (∀ d ∈ es, isConstruct d = false) → runEvents (e :: es) s = .next (t, rs) → t.position = 3 →
    t.scale = Config.num.num15 ∧
    ∃ u, exec .getposDeg t = .next u ∧ u.resp.val = .num Config.num.num45

/-- R154: two read-outs with only NOPs and read-outs between them answer alike, and inserting or removing a read-out
anywhere in a trace of a live instance changes no other response and no state element. -/
def Obligations.GetposIsPure : Prop :=
  (∀ (es : List Event) (s t : State) (rs : List Response), s.live = true →
    (∀ e ∈ es, isConstruct e = false ∧ opField e.stim ≠ 0b01#2) →
    runEvents es s = .next (t, rs) → s.sameElements t ∧
    ∀ i u v, (i = .getposDet ∨ i = .getposDeg) → exec i s = .next u → exec i t = .next v →
      v.resp = u.resp) ∧
  (∀ (es es' : List Event) (g : Event) (s : State), s.live = true → isConstruct g = false →
    (opField g.stim = 0b10#2 ∨ opField g.stim = 0b11#2) →
    (∀ t rs, runEvents (es ++ es') s = .next (t, rs) →
      ∃ r t', runEvents (es ++ g :: es') s =
        .next (t', rs.take es.length ++ r :: rs.drop es.length) ∧ t.sameElements t') ∧
    (∀ t rs, runEvents (es ++ g :: es') s = .next (t, rs) →
      ∃ u rs', runEvents (es ++ es') s = .next (u, rs')))

/-- R155, R40 (iii): at every point of a trace that begins with a CONSTRUCT, under either strategy, the position, and so
what GETPOS.DET answers, is the sum of the weights of the directions reported since. -/
def Obligations.PositionIsTheSumOfReports : Prop :=
  ∀ (e : Event) (es : List Event) (s t : State) (rs : List Response), isConstruct e = true →
    (∀ d ∈ es, isConstruct d = false) → runEvents (e :: es) s = .next (t, rs) →
    t.position = dirSum rs ∧
    ∃ u, exec .getposDet t = .next u ∧ u.resp.val = .int (dirSum rs)

/-- R197, R57 (3): a read-out right after a POLL reads the position the POLL moved. -/
def Obligations.ReadOutSeesThePollBefore : Prop :=
  ∀ (i : Instr) (s t : State),
    ((∃ a b, i = .pollC4 a b) ∨ ∃ a b db, i = .pollEdge a b db) → exec i s = .next t →
    ∃ u, exec .getposDet t = .next u ∧ u.resp.val = .int (s.position + t.resp.dir.dval)

/-! ### The whole block (spec/10_state.md, 00_scope.md, 60_exceptions.md, 70_reset_and_hazards.md) -/

/-- R37, R139, R150: what each operation writes and what it leaves. -/
def Obligations.EveryOperationWritesOnlyItsElements : Prop :=
  ∀ (i : Instr) (s t : State), exec i s = .next t →
    match i with
    | .construct _ => t.inbox = s.inbox
    | .nop => t = { s with resp := t.resp, calls := t.calls }
    | .getposDet => t = { s with resp := t.resp, calls := t.calls }
    | .getposDeg => t = { s with resp := t.resp, calls := t.calls }
    | .pollC4 a b =>
      t = { s with aS := a, bS := b, dfltValid := true, ref := t.ref, curStep := t.curStep,
                   prevStep := t.prevStep, acc := t.acc, cycleFinished := t.cycleFinished,
                   position := t.position, resp := t.resp, calls := t.calls } ∧
      (s.dfltValid = false → t.curStep = s.curStep ∧ t.prevStep = s.prevStep ∧ t.acc = s.acc ∧
        t.cycleFinished = s.cycleFinished ∧ t.position = s.position ∧ t.ref = a) ∧
      (s.dfltValid = true → t.ref = s.ref ∧
        (stepOf s.ref a b ≠ .s0 → t.position = s.position ∧
          (s.cycleFinished = true → t.acc = s.acc) ∧
          (s.cycleFinished = false → t.cycleFinished = s.cycleFinished)) ∧
        (t.position = s.position ∨ t.position = s.position + 1 ∨ t.position = s.position - 1))
    | .pollEdge a b db =>
      t = { s with aS := a, bS := b, dfltValid := true, ref := t.ref, settling := t.settling,
                   position := t.position, resp := t.resp, calls := t.calls } ∧
      (s.dfltValid = false → t.settling = s.settling ∧ t.position = s.position ∧ t.ref = a) ∧
      (s.dfltValid = true →
        (¬ (t.resp.gateReq = true ∧ db = .finished) → t.ref = s.ref ∧ t.position = s.position) ∧
        (t.resp.gateReq = true ∧ db = .finished → t.ref = b ∧
          (t.position = s.position + 1 ∨ t.position = s.position - 1)))

/-- R27, R193: over any stream of events with no CONSTRUCT the configuration, the strategy among it, and the scale factor
stay; and so does each single operation leave them. -/
def Obligations.ConfigurationIsFixedForALifetime : Prop :=
  (∀ (i : Instr) (s t : State), (∀ c, i ≠ .construct c) → exec i s = .next t →
    t.cfg = s.cfg ∧ t.scale = s.scale) ∧
  (∀ (es : List Event) (s t : State) (rs : List Response), (∀ e ∈ es, isConstruct e = false) →
    runEvents es s = .next (t, rs) → t.cfg = s.cfg ∧ t.scale = s.scale)

/-- R40 (i), (ii), (iv), with R26, R92 and the clauses of R40 for EDGE: every step keeps the invariant, from every state
that meets it. -/
def Obligations.StepKeepsTheInvariants : Prop :=
  ∀ s t : State, s.inv → step s = .next t → t.inv

/-- R40: the invariant holds after reset and before any instance exists. -/
def Obligations.ResetMeetsTheInvariants : Prop :=
  State.reset.inv ∧ State.beforeConstruct.inv

/-- R107, R40 (i): in a state that meets the invariant, branch (b) never looks up the row of step 0, so the table entries
(0,1) and (0,3) are not exercised; and a decoding poll at step 0 with the flag set changes nothing the host can read. -/
def Obligations.RowZeroOfDeltaIsNotExercised : Prop :=
  ∀ (s : State) (a b : Level), s.inv → s.decodesBy .cycle4 →
    (branchOf s.cycleFinished (stepOf s.ref a b) = .accumulates → s.prevStep ≠ .s0) ∧
    (s.dfltValid = true → s.cycleFinished = true → stepOf s.ref a b = .s0 →
      ∃ t, exec (.pollC4 a b) s = .next t ∧ t.c4View = s.c4View ∧ t.resp.dir = .neutral)

/-- R165, R111, R142, R181: a live instance runs every finite stream of events in which no CONSTRUCT has zero detents,
to its end, with one response an event; and a step is refused only for want of an instance or for zero detents, never
for a mixed strategy or for an operation without a meaning. -/
def Obligations.NoOperationFails : Prop :=
  (∀ (es : List Event) (s : State), s.live = true → (∀ e ∈ es, admitted e = true) →
    ∃ t rs, runEvents es s = .next (t, rs) ∧ rs.length = es.length ∧ t.live = true) ∧
  (∀ (s : State) (r : Refusal), step s = .refused r →
    (r = .noneConstructed ∧ s.live = false) ∨
    (r = .zeroDetents ∧ ∃ e rest, s.inbox = e :: rest ∧ isConstruct e = true ∧
      e.cfg.wellFormed = false))

/-- R5, R67, R167, U3: a POLL of the strategy the configuration does not select is refused; the decoder never gives one. -/
def Obligations.StrategiesNeverMix : Prop :=
  (∀ (a b : Level) (s : State), s.decodesBy .edge →
    exec (.pollC4 a b) s = .refused .strategyNotSelected) ∧
  (∀ (a b : Level) (db : GateCode) (s : State), s.decodesBy .cycle4 →
    exec (.pollEdge a b db) s = .refused .strategyNotSelected) ∧
  (∀ (σ : Strategy) (e : Event), (decode σ e).under σ = true)

/-- R41, R28, R31, R30, U11: two states that differ only in `a_s`, `b_s`, `cur_step`, the output side, the count of free
values, the events queued behind, and, before the first poll, `ref`, answer every stream of events alike. -/
def Obligations.DroppableStateIsNeverSeen : Prop :=
  ∀ (s t : State) (es : List Event), sameForResponses s t →
    shown (runEvents es s) = shown (runEvents es t)

/-- R21, R22: the pin identifiers and the debounce window change no answer, under either strategy and also when the two
identifiers are equal. -/
def Obligations.PinsAndWindowChangeNoAnswer : Prop :=
  ∀ (s : State) (es : List Event) (pinA pinB window : Nat),
    shown (runEvents es { s with
      cfg := { s.cfg with pinA := pinA, pinB := pinB, debounceMs := window } }) =
    shown (runEvents es s)

/-- R11: the finite realisation agrees with the machine on every run in which each value stays in its width, its
two's complement registers then hold the integers, and it refuses the step that leaves the width. -/
def Obligations.FiniteRealisationAgreesInRange : Prop :=
  (∀ (w : Widths) (k : Nat) (s : State),
    (∀ j t, j ≤ k → Host.Core.run Sys2Proof.core j s = .next t → State.fits t w = true) →
    Host.Core.run (finiteCore w) k s = Host.Core.run Sys2Proof.core k s) ∧
  (∀ (w : Widths) (n m : Nat) (s : State), w.acc = some n → w.pos = some m → 0 < n → 0 < m →
    s.fits w = true → (s.accWord n).toInt = s.acc ∧ (s.posWord m).toInt = s.position) ∧
  (∀ (w : Widths) (s t : State), step s = .next t → t.fits w = false →
    stepWithin w s = .refused .beyondWidth)
end

