-- ==== Sys2Proof/Laws/State.lean ====
section
/-! SUPPORT. One lemma per field and state operation: what the operation leaves in the field. Later proofs read a field
after an operation by these and never unfold a record update. -/

namespace Sys2Proof.Machine

variable (s : State)

/-! ### sample -/

@[simp] theorem State.sample_live (a b : Level) : (s.sample a b).live = s.live := rfl
@[simp] theorem State.sample_cfg (a b : Level) : (s.sample a b).cfg = s.cfg := rfl
@[simp] theorem State.sample_scale (a b : Level) : (s.sample a b).scale = s.scale := rfl
@[simp] theorem State.sample_aS (a b : Level) : (s.sample a b).aS = a := rfl
@[simp] theorem State.sample_bS (a b : Level) : (s.sample a b).bS = b := rfl
@[simp] theorem State.sample_dfltValid (a b : Level) : (s.sample a b).dfltValid = s.dfltValid := rfl
@[simp] theorem State.sample_ref (a b : Level) : (s.sample a b).ref = s.ref := rfl
@[simp] theorem State.sample_curStep (a b : Level) : (s.sample a b).curStep = s.curStep := rfl
@[simp] theorem State.sample_prevStep (a b : Level) : (s.sample a b).prevStep = s.prevStep := rfl
@[simp] theorem State.sample_acc (a b : Level) : (s.sample a b).acc = s.acc := rfl
@[simp] theorem State.sample_cycleFinished (a b : Level) : (s.sample a b).cycleFinished = s.cycleFinished := rfl
@[simp] theorem State.sample_settling (a b : Level) : (s.sample a b).settling = s.settling := rfl
@[simp] theorem State.sample_position (a b : Level) : (s.sample a b).position = s.position := rfl
@[simp] theorem State.sample_inbox (a b : Level) : (s.sample a b).inbox = s.inbox := rfl
@[simp] theorem State.sample_resp (a b : Level) : (s.sample a b).resp = s.resp := rfl
@[simp] theorem State.sample_calls (a b : Level) : (s.sample a b).calls = s.calls := rfl
@[simp] theorem State.sample_draws (a b : Level) : (s.sample a b).draws = s.draws := rfl

/-! ### recordDefault -/

@[simp] theorem State.recordDefault_live (a : Level) : (s.recordDefault a).live = s.live := rfl
@[simp] theorem State.recordDefault_cfg (a : Level) : (s.recordDefault a).cfg = s.cfg := rfl
@[simp] theorem State.recordDefault_scale (a : Level) : (s.recordDefault a).scale = s.scale := rfl
@[simp] theorem State.recordDefault_aS (a : Level) : (s.recordDefault a).aS = s.aS := rfl
@[simp] theorem State.recordDefault_bS (a : Level) : (s.recordDefault a).bS = s.bS := rfl
@[simp] theorem State.recordDefault_dfltValid (a : Level) : (s.recordDefault a).dfltValid = true := rfl
@[simp] theorem State.recordDefault_ref (a : Level) : (s.recordDefault a).ref = a := rfl
@[simp] theorem State.recordDefault_curStep (a : Level) : (s.recordDefault a).curStep = s.curStep := rfl
@[simp] theorem State.recordDefault_prevStep (a : Level) : (s.recordDefault a).prevStep = s.prevStep := rfl
@[simp] theorem State.recordDefault_acc (a : Level) : (s.recordDefault a).acc = s.acc := rfl
@[simp] theorem State.recordDefault_cycleFinished (a : Level) : (s.recordDefault a).cycleFinished = s.cycleFinished := rfl
@[simp] theorem State.recordDefault_settling (a : Level) : (s.recordDefault a).settling = s.settling := rfl
@[simp] theorem State.recordDefault_position (a : Level) : (s.recordDefault a).position = s.position := rfl
@[simp] theorem State.recordDefault_inbox (a : Level) : (s.recordDefault a).inbox = s.inbox := rfl
@[simp] theorem State.recordDefault_resp (a : Level) : (s.recordDefault a).resp = s.resp := rfl
@[simp] theorem State.recordDefault_calls (a : Level) : (s.recordDefault a).calls = s.calls := rfl
@[simp] theorem State.recordDefault_draws (a : Level) : (s.recordDefault a).draws = s.draws := rfl

/-! ### setCurStep -/

@[simp] theorem State.setCurStep_live (c : StepCode) : (s.setCurStep c).live = s.live := rfl
@[simp] theorem State.setCurStep_cfg (c : StepCode) : (s.setCurStep c).cfg = s.cfg := rfl
@[simp] theorem State.setCurStep_scale (c : StepCode) : (s.setCurStep c).scale = s.scale := rfl
@[simp] theorem State.setCurStep_aS (c : StepCode) : (s.setCurStep c).aS = s.aS := rfl
@[simp] theorem State.setCurStep_bS (c : StepCode) : (s.setCurStep c).bS = s.bS := rfl
@[simp] theorem State.setCurStep_dfltValid (c : StepCode) : (s.setCurStep c).dfltValid = s.dfltValid := rfl
@[simp] theorem State.setCurStep_ref (c : StepCode) : (s.setCurStep c).ref = s.ref := rfl
@[simp] theorem State.setCurStep_curStep (c : StepCode) : (s.setCurStep c).curStep = c := rfl
@[simp] theorem State.setCurStep_prevStep (c : StepCode) : (s.setCurStep c).prevStep = s.prevStep := rfl
@[simp] theorem State.setCurStep_acc (c : StepCode) : (s.setCurStep c).acc = s.acc := rfl
@[simp] theorem State.setCurStep_cycleFinished (c : StepCode) : (s.setCurStep c).cycleFinished = s.cycleFinished := rfl
@[simp] theorem State.setCurStep_settling (c : StepCode) : (s.setCurStep c).settling = s.settling := rfl
@[simp] theorem State.setCurStep_position (c : StepCode) : (s.setCurStep c).position = s.position := rfl
@[simp] theorem State.setCurStep_inbox (c : StepCode) : (s.setCurStep c).inbox = s.inbox := rfl
@[simp] theorem State.setCurStep_resp (c : StepCode) : (s.setCurStep c).resp = s.resp := rfl
@[simp] theorem State.setCurStep_calls (c : StepCode) : (s.setCurStep c).calls = s.calls := rfl
@[simp] theorem State.setCurStep_draws (c : StepCode) : (s.setCurStep c).draws = s.draws := rfl

/-! ### beginCycle -/

@[simp] theorem State.beginCycle_live : s.beginCycle.live = s.live := rfl
@[simp] theorem State.beginCycle_cfg : s.beginCycle.cfg = s.cfg := rfl
@[simp] theorem State.beginCycle_scale : s.beginCycle.scale = s.scale := rfl
@[simp] theorem State.beginCycle_aS : s.beginCycle.aS = s.aS := rfl
@[simp] theorem State.beginCycle_bS : s.beginCycle.bS = s.bS := rfl
@[simp] theorem State.beginCycle_dfltValid : s.beginCycle.dfltValid = s.dfltValid := rfl
@[simp] theorem State.beginCycle_ref : s.beginCycle.ref = s.ref := rfl
@[simp] theorem State.beginCycle_curStep : s.beginCycle.curStep = s.curStep := rfl
@[simp] theorem State.beginCycle_prevStep : s.beginCycle.prevStep = s.prevStep := rfl
@[simp] theorem State.beginCycle_acc : s.beginCycle.acc = s.acc := rfl
@[simp] theorem State.beginCycle_cycleFinished : s.beginCycle.cycleFinished = false := rfl
@[simp] theorem State.beginCycle_settling : s.beginCycle.settling = s.settling := rfl
@[simp] theorem State.beginCycle_position : s.beginCycle.position = s.position := rfl
@[simp] theorem State.beginCycle_inbox : s.beginCycle.inbox = s.inbox := rfl
@[simp] theorem State.beginCycle_resp : s.beginCycle.resp = s.resp := rfl
@[simp] theorem State.beginCycle_calls : s.beginCycle.calls = s.calls := rfl
@[simp] theorem State.beginCycle_draws : s.beginCycle.draws = s.draws := rfl

/-! ### accumulate -/

@[simp] theorem State.accumulate_live (d : Int) : (s.accumulate d).live = s.live := rfl
@[simp] theorem State.accumulate_cfg (d : Int) : (s.accumulate d).cfg = s.cfg := rfl
@[simp] theorem State.accumulate_scale (d : Int) : (s.accumulate d).scale = s.scale := rfl
@[simp] theorem State.accumulate_aS (d : Int) : (s.accumulate d).aS = s.aS := rfl
@[simp] theorem State.accumulate_bS (d : Int) : (s.accumulate d).bS = s.bS := rfl
@[simp] theorem State.accumulate_dfltValid (d : Int) : (s.accumulate d).dfltValid = s.dfltValid := rfl
@[simp] theorem State.accumulate_ref (d : Int) : (s.accumulate d).ref = s.ref := rfl
@[simp] theorem State.accumulate_curStep (d : Int) : (s.accumulate d).curStep = s.curStep := rfl
@[simp] theorem State.accumulate_prevStep (d : Int) : (s.accumulate d).prevStep = s.prevStep := rfl
@[simp] theorem State.accumulate_acc (d : Int) : (s.accumulate d).acc = s.acc + d := rfl
@[simp] theorem State.accumulate_cycleFinished (d : Int) : (s.accumulate d).cycleFinished = s.cycleFinished := rfl
@[simp] theorem State.accumulate_settling (d : Int) : (s.accumulate d).settling = s.settling := rfl
@[simp] theorem State.accumulate_position (d : Int) : (s.accumulate d).position = s.position := rfl
@[simp] theorem State.accumulate_inbox (d : Int) : (s.accumulate d).inbox = s.inbox := rfl
@[simp] theorem State.accumulate_resp (d : Int) : (s.accumulate d).resp = s.resp := rfl
@[simp] theorem State.accumulate_calls (d : Int) : (s.accumulate d).calls = s.calls := rfl
@[simp] theorem State.accumulate_draws (d : Int) : (s.accumulate d).draws = s.draws := rfl

/-! ### finishCycle -/

@[simp] theorem State.finishCycle_live : s.finishCycle.live = s.live := rfl
@[simp] theorem State.finishCycle_cfg : s.finishCycle.cfg = s.cfg := rfl
@[simp] theorem State.finishCycle_scale : s.finishCycle.scale = s.scale := rfl
@[simp] theorem State.finishCycle_aS : s.finishCycle.aS = s.aS := rfl
@[simp] theorem State.finishCycle_bS : s.finishCycle.bS = s.bS := rfl
@[simp] theorem State.finishCycle_dfltValid : s.finishCycle.dfltValid = s.dfltValid := rfl
@[simp] theorem State.finishCycle_ref : s.finishCycle.ref = s.ref := rfl
@[simp] theorem State.finishCycle_curStep : s.finishCycle.curStep = s.curStep := rfl
@[simp] theorem State.finishCycle_prevStep : s.finishCycle.prevStep = s.prevStep := rfl
@[simp] theorem State.finishCycle_acc : s.finishCycle.acc = 0 := rfl
@[simp] theorem State.finishCycle_cycleFinished : s.finishCycle.cycleFinished = true := rfl
@[simp] theorem State.finishCycle_settling : s.finishCycle.settling = s.settling := rfl
@[simp] theorem State.finishCycle_position : s.finishCycle.position = s.position := rfl
@[simp] theorem State.finishCycle_inbox : s.finishCycle.inbox = s.inbox := rfl
@[simp] theorem State.finishCycle_resp : s.finishCycle.resp = s.resp := rfl
@[simp] theorem State.finishCycle_calls : s.finishCycle.calls = s.calls := rfl
@[simp] theorem State.finishCycle_draws : s.finishCycle.draws = s.draws := rfl

/-! ### persistStep -/

@[simp] theorem State.persistStep_live (c : StepCode) : (s.persistStep c).live = s.live := rfl
@[simp] theorem State.persistStep_cfg (c : StepCode) : (s.persistStep c).cfg = s.cfg := rfl
@[simp] theorem State.persistStep_scale (c : StepCode) : (s.persistStep c).scale = s.scale := rfl
@[simp] theorem State.persistStep_aS (c : StepCode) : (s.persistStep c).aS = s.aS := rfl
@[simp] theorem State.persistStep_bS (c : StepCode) : (s.persistStep c).bS = s.bS := rfl
@[simp] theorem State.persistStep_dfltValid (c : StepCode) : (s.persistStep c).dfltValid = s.dfltValid := rfl
@[simp] theorem State.persistStep_ref (c : StepCode) : (s.persistStep c).ref = s.ref := rfl
@[simp] theorem State.persistStep_curStep (c : StepCode) : (s.persistStep c).curStep = s.curStep := rfl
@[simp] theorem State.persistStep_prevStep (c : StepCode) : (s.persistStep c).prevStep = c := rfl
@[simp] theorem State.persistStep_acc (c : StepCode) : (s.persistStep c).acc = s.acc := rfl
@[simp] theorem State.persistStep_cycleFinished (c : StepCode) : (s.persistStep c).cycleFinished = s.cycleFinished := rfl
@[simp] theorem State.persistStep_settling (c : StepCode) : (s.persistStep c).settling = s.settling := rfl
@[simp] theorem State.persistStep_position (c : StepCode) : (s.persistStep c).position = s.position := rfl
@[simp] theorem State.persistStep_inbox (c : StepCode) : (s.persistStep c).inbox = s.inbox := rfl
@[simp] theorem State.persistStep_resp (c : StepCode) : (s.persistStep c).resp = s.resp := rfl
@[simp] theorem State.persistStep_calls (c : StepCode) : (s.persistStep c).calls = s.calls := rfl
@[simp] theorem State.persistStep_draws (c : StepCode) : (s.persistStep c).draws = s.draws := rfl

/-! ### movePosition -/

@[simp] theorem State.movePosition_live (d : Dir) : (s.movePosition d).live = s.live := rfl
@[simp] theorem State.movePosition_cfg (d : Dir) : (s.movePosition d).cfg = s.cfg := rfl
@[simp] theorem State.movePosition_scale (d : Dir) : (s.movePosition d).scale = s.scale := rfl
@[simp] theorem State.movePosition_aS (d : Dir) : (s.movePosition d).aS = s.aS := rfl
@[simp] theorem State.movePosition_bS (d : Dir) : (s.movePosition d).bS = s.bS := rfl
@[simp] theorem State.movePosition_dfltValid (d : Dir) : (s.movePosition d).dfltValid = s.dfltValid := rfl
@[simp] theorem State.movePosition_ref (d : Dir) : (s.movePosition d).ref = s.ref := rfl
@[simp] theorem State.movePosition_curStep (d : Dir) : (s.movePosition d).curStep = s.curStep := rfl
@[simp] theorem State.movePosition_prevStep (d : Dir) : (s.movePosition d).prevStep = s.prevStep := rfl
@[simp] theorem State.movePosition_acc (d : Dir) : (s.movePosition d).acc = s.acc := rfl
@[simp] theorem State.movePosition_cycleFinished (d : Dir) : (s.movePosition d).cycleFinished = s.cycleFinished := rfl
@[simp] theorem State.movePosition_settling (d : Dir) : (s.movePosition d).settling = s.settling := rfl
@[simp] theorem State.movePosition_position (d : Dir) : (s.movePosition d).position = s.position + d.dval := rfl
@[simp] theorem State.movePosition_inbox (d : Dir) : (s.movePosition d).inbox = s.inbox := rfl
@[simp] theorem State.movePosition_resp (d : Dir) : (s.movePosition d).resp = s.resp := rfl
@[simp] theorem State.movePosition_calls (d : Dir) : (s.movePosition d).calls = s.calls := rfl
@[simp] theorem State.movePosition_draws (d : Dir) : (s.movePosition d).draws = s.draws := rfl

/-! ### setSettling -/

@[simp] theorem State.setSettling_live (v : Bool) : (s.setSettling v).live = s.live := rfl
@[simp] theorem State.setSettling_cfg (v : Bool) : (s.setSettling v).cfg = s.cfg := rfl
@[simp] theorem State.setSettling_scale (v : Bool) : (s.setSettling v).scale = s.scale := rfl
@[simp] theorem State.setSettling_aS (v : Bool) : (s.setSettling v).aS = s.aS := rfl
@[simp] theorem State.setSettling_bS (v : Bool) : (s.setSettling v).bS = s.bS := rfl
@[simp] theorem State.setSettling_dfltValid (v : Bool) : (s.setSettling v).dfltValid = s.dfltValid := rfl
@[simp] theorem State.setSettling_ref (v : Bool) : (s.setSettling v).ref = s.ref := rfl
@[simp] theorem State.setSettling_curStep (v : Bool) : (s.setSettling v).curStep = s.curStep := rfl
@[simp] theorem State.setSettling_prevStep (v : Bool) : (s.setSettling v).prevStep = s.prevStep := rfl
@[simp] theorem State.setSettling_acc (v : Bool) : (s.setSettling v).acc = s.acc := rfl
@[simp] theorem State.setSettling_cycleFinished (v : Bool) : (s.setSettling v).cycleFinished = s.cycleFinished := rfl
@[simp] theorem State.setSettling_settling (v : Bool) : (s.setSettling v).settling = v := rfl
@[simp] theorem State.setSettling_position (v : Bool) : (s.setSettling v).position = s.position := rfl
@[simp] theorem State.setSettling_inbox (v : Bool) : (s.setSettling v).inbox = s.inbox := rfl
@[simp] theorem State.setSettling_resp (v : Bool) : (s.setSettling v).resp = s.resp := rfl
@[simp] theorem State.setSettling_calls (v : Bool) : (s.setSettling v).calls = s.calls := rfl
@[simp] theorem State.setSettling_draws (v : Bool) : (s.setSettling v).draws = s.draws := rfl

/-! ### setRef -/

@[simp] theorem State.setRef_live (b : Level) : (s.setRef b).live = s.live := rfl
@[simp] theorem State.setRef_cfg (b : Level) : (s.setRef b).cfg = s.cfg := rfl
@[simp] theorem State.setRef_scale (b : Level) : (s.setRef b).scale = s.scale := rfl
@[simp] theorem State.setRef_aS (b : Level) : (s.setRef b).aS = s.aS := rfl
@[simp] theorem State.setRef_bS (b : Level) : (s.setRef b).bS = s.bS := rfl
@[simp] theorem State.setRef_dfltValid (b : Level) : (s.setRef b).dfltValid = s.dfltValid := rfl
@[simp] theorem State.setRef_ref (b : Level) : (s.setRef b).ref = b := rfl
@[simp] theorem State.setRef_curStep (b : Level) : (s.setRef b).curStep = s.curStep := rfl
@[simp] theorem State.setRef_prevStep (b : Level) : (s.setRef b).prevStep = s.prevStep := rfl
@[simp] theorem State.setRef_acc (b : Level) : (s.setRef b).acc = s.acc := rfl
@[simp] theorem State.setRef_cycleFinished (b : Level) : (s.setRef b).cycleFinished = s.cycleFinished := rfl
@[simp] theorem State.setRef_settling (b : Level) : (s.setRef b).settling = s.settling := rfl
@[simp] theorem State.setRef_position (b : Level) : (s.setRef b).position = s.position := rfl
@[simp] theorem State.setRef_inbox (b : Level) : (s.setRef b).inbox = s.inbox := rfl
@[simp] theorem State.setRef_resp (b : Level) : (s.setRef b).resp = s.resp := rfl
@[simp] theorem State.setRef_calls (b : Level) : (s.setRef b).calls = s.calls := rfl
@[simp] theorem State.setRef_draws (b : Level) : (s.setRef b).draws = s.draws := rfl

/-! ### answer -/

@[simp] theorem State.answer_live (r : Response) (cs : List Call) : (s.answer r cs).live = s.live := rfl
@[simp] theorem State.answer_cfg (r : Response) (cs : List Call) : (s.answer r cs).cfg = s.cfg := rfl
@[simp] theorem State.answer_scale (r : Response) (cs : List Call) : (s.answer r cs).scale = s.scale := rfl
@[simp] theorem State.answer_aS (r : Response) (cs : List Call) : (s.answer r cs).aS = s.aS := rfl
@[simp] theorem State.answer_bS (r : Response) (cs : List Call) : (s.answer r cs).bS = s.bS := rfl
@[simp] theorem State.answer_dfltValid (r : Response) (cs : List Call) : (s.answer r cs).dfltValid = s.dfltValid := rfl
@[simp] theorem State.answer_ref (r : Response) (cs : List Call) : (s.answer r cs).ref = s.ref := rfl
@[simp] theorem State.answer_curStep (r : Response) (cs : List Call) : (s.answer r cs).curStep = s.curStep := rfl
@[simp] theorem State.answer_prevStep (r : Response) (cs : List Call) : (s.answer r cs).prevStep = s.prevStep := rfl
@[simp] theorem State.answer_acc (r : Response) (cs : List Call) : (s.answer r cs).acc = s.acc := rfl
@[simp] theorem State.answer_cycleFinished (r : Response) (cs : List Call) : (s.answer r cs).cycleFinished = s.cycleFinished := rfl
@[simp] theorem State.answer_settling (r : Response) (cs : List Call) : (s.answer r cs).settling = s.settling := rfl
@[simp] theorem State.answer_position (r : Response) (cs : List Call) : (s.answer r cs).position = s.position := rfl
@[simp] theorem State.answer_inbox (r : Response) (cs : List Call) : (s.answer r cs).inbox = s.inbox := rfl
@[simp] theorem State.answer_resp (r : Response) (cs : List Call) : (s.answer r cs).resp = r := rfl
@[simp] theorem State.answer_calls (r : Response) (cs : List Call) : (s.answer r cs).calls = cs := rfl
@[simp] theorem State.answer_draws (r : Response) (cs : List Call) : (s.answer r cs).draws = s.draws := rfl

/-! ### present -/

@[simp] theorem State.present_live (e : Event) : (s.present e).live = s.live := rfl
@[simp] theorem State.present_cfg (e : Event) : (s.present e).cfg = s.cfg := rfl
@[simp] theorem State.present_scale (e : Event) : (s.present e).scale = s.scale := rfl
@[simp] theorem State.present_aS (e : Event) : (s.present e).aS = s.aS := rfl
@[simp] theorem State.present_bS (e : Event) : (s.present e).bS = s.bS := rfl
@[simp] theorem State.present_dfltValid (e : Event) : (s.present e).dfltValid = s.dfltValid := rfl
@[simp] theorem State.present_ref (e : Event) : (s.present e).ref = s.ref := rfl
@[simp] theorem State.present_curStep (e : Event) : (s.present e).curStep = s.curStep := rfl
@[simp] theorem State.present_prevStep (e : Event) : (s.present e).prevStep = s.prevStep := rfl
@[simp] theorem State.present_acc (e : Event) : (s.present e).acc = s.acc := rfl
@[simp] theorem State.present_cycleFinished (e : Event) : (s.present e).cycleFinished = s.cycleFinished := rfl
@[simp] theorem State.present_settling (e : Event) : (s.present e).settling = s.settling := rfl
@[simp] theorem State.present_position (e : Event) : (s.present e).position = s.position := rfl
@[simp] theorem State.present_inbox (e : Event) : (s.present e).inbox = e :: s.inbox := rfl
@[simp] theorem State.present_resp (e : Event) : (s.present e).resp = s.resp := rfl
@[simp] theorem State.present_calls (e : Event) : (s.present e).calls = s.calls := rfl
@[simp] theorem State.present_draws (e : Event) : (s.present e).draws = s.draws := rfl

/-! ### construct -/

@[simp] theorem State.construct_live (g : Configuration) : (s.construct g).live = true := rfl
@[simp] theorem State.construct_cfg (g : Configuration) : (s.construct g).cfg = g := rfl
@[simp] theorem State.construct_scale (g : Configuration) : (s.construct g).scale = scaleOf g := rfl
@[simp] theorem State.construct_aS (g : Configuration) : (s.construct g).aS = Config.freeLevel s.draws := rfl
@[simp] theorem State.construct_bS (g : Configuration) : (s.construct g).bS = Config.freeLevel (s.draws + 1) := rfl
@[simp] theorem State.construct_dfltValid (g : Configuration) : (s.construct g).dfltValid = false := rfl
@[simp] theorem State.construct_ref (g : Configuration) : (s.construct g).ref = Config.freeLevel (s.draws + 2) := rfl
@[simp] theorem State.construct_curStep (g : Configuration) : (s.construct g).curStep = .s0 := rfl
@[simp] theorem State.construct_prevStep (g : Configuration) : (s.construct g).prevStep = .s0 := rfl
@[simp] theorem State.construct_acc (g : Configuration) : (s.construct g).acc = 0 := rfl
@[simp] theorem State.construct_cycleFinished (g : Configuration) : (s.construct g).cycleFinished = true := rfl
@[simp] theorem State.construct_settling (g : Configuration) : (s.construct g).settling = false := rfl
@[simp] theorem State.construct_position (g : Configuration) : (s.construct g).position = 0 := rfl
@[simp] theorem State.construct_inbox (g : Configuration) : (s.construct g).inbox = s.inbox := rfl
@[simp] theorem State.construct_resp (g : Configuration) : (s.construct g).resp = .idle := rfl
@[simp] theorem State.construct_calls (g : Configuration) : (s.construct g).calls = [] := rfl
@[simp] theorem State.construct_draws (g : Configuration) : (s.construct g).draws = s.draws + 3 := rfl

end Sys2Proof.Machine
end

