-- ==== Sys2Proof/Laws/Ops.lean ====
section
/-! SUPPORT. What each shared operation and each meaning can do, said once. -/

namespace Sys2Proof.Machine

variable {s t u : State}

/-! ### The two guards -/

theorem State.ifLive_next : s.ifLive t = .next u ↔ s.live = true ∧ u = t := by
  cases h : s.live <;> simp [State.ifLive, h, eq_comm]

theorem State.ifStrategy_next {σ : Strategy} :
    s.ifStrategy σ t = .next u ↔ s.live = true ∧ s.cfg.strategy = σ ∧ u = t := by
  cases h : s.live <;> by_cases h' : s.cfg.strategy = σ <;> simp [State.ifStrategy, h, h', eq_comm]

theorem State.ifLive_refused {r : Refusal} :
    s.ifLive t = .refused r ↔ s.live = false ∧ r = .noneConstructed := by
  cases h : s.live <;> simp [State.ifLive, h, eq_comm]

theorem State.ifStrategy_refused {σ : Strategy} {r : Refusal} :
    s.ifStrategy σ t = .refused r ↔
      (s.live = false ∧ r = .noneConstructed) ∨
      (s.live = true ∧ s.cfg.strategy ≠ σ ∧ r = .strategyNotSelected) := by
  cases h : s.live <;> by_cases h' : s.cfg.strategy = σ <;> simp [State.ifStrategy, h, h', eq_comm]

/-! ### The lookups -/

theorem branchOf_eq_begins {f : Bool} {c : StepCode} :
    branchOf f c = .begins ↔ f = true ∧ c ≠ .s0 := by
  cases f <;> cases c <;> decide

theorem branchOf_eq_accumulates {f : Bool} {c : StepCode} :
    branchOf f c = .accumulates ↔ f = false ∧ c ≠ .s0 := by
  cases f <;> cases c <;> decide

theorem branchOf_eq_finishes {f : Bool} {c : StepCode} : branchOf f c = .finishes ↔ c = .s0 := by
  cases f <;> cases c <;> decide

theorem delta_self (c : StepCode) : delta c c = 0 := by
  cases c <;> rfl

theorem stepOf_pollStepLevels (r : Level) (c : StepCode) :
    stepOf r (pollStepLevels r c).1 (pollStepLevels r c).2 = c := by
  cases r <;> cases c <;> decide

theorem dirOfAcc_zero : dirOfAcc 0 = .neutral := rfl

theorem dirOfAcc_pos {k : Int} (h : 0 < k) : dirOfAcc k = .positive := by
  simp [dirOfAcc, h]

theorem dirOfAcc_neg {k : Int} (h : k < 0) : dirOfAcc k = .negative := by
  have : ¬ k > 0 := by omega
  simp [dirOfAcc, this, h]

/-- R92, on the inputs: they are ill formed exactly when the detents are given and zero. -/
theorem CtorInputs.wellFormed_eq_false {c : CtorInputs} : c.wellFormed = false ↔ c.detents = some 0 := by
  rcases h : c.detents with _ | d <;> simp [CtorInputs.wellFormed, h, Config.defaultDetents]

/-! ### The three branches of POLL.C4 -/

/-- Everything the three branches can do. -/
theorem State.cycleStep_cases (s : State) (c : StepCode) :
    (s.cycleFinished = true ∧ c ≠ .s0 ∧ s.cycleStep c = (s.beginCycle, .neutral)) ∨
    (s.cycleFinished = false ∧ c ≠ .s0 ∧
      s.cycleStep c = (s.accumulate (delta s.prevStep c), .neutral)) ∨
    (c = .s0 ∧ s.cycleStep c = (s.finishCycle.movePosition (dirOfAcc s.acc), dirOfAcc s.acc)) := by
  rcases h : branchOf s.cycleFinished c with _ | _ | _
  · exact .inl ⟨(branchOf_eq_begins.1 h).1, (branchOf_eq_begins.1 h).2, by simp [State.cycleStep, h]⟩
  · exact .inr (.inl ⟨(branchOf_eq_accumulates.1 h).1, (branchOf_eq_accumulates.1 h).2,
      by simp [State.cycleStep, h]⟩)
  · exact .inr (.inr ⟨branchOf_eq_finishes.1 h, by simp [State.cycleStep, h]⟩)

/-- Everything a decoding poll can do, each outcome written out: a cycle begins (R105), the accumulator advances (R106),
or the cycle finishes (R108); the step is held and persisted in all three (R104, R109). -/
theorem State.decodePoll_cases (s : State) (a b : Level) :
    (s.cycleFinished = true ∧ stepOf s.ref a b ≠ .s0 ∧
      s.decodePoll a b = { s with
        aS := a, bS := b, curStep := stepOf s.ref a b, prevStep := stepOf s.ref a b,
        cycleFinished := false, resp := pollResponse .neutral false, calls := [s.pinSample] }) ∨
    (s.cycleFinished = false ∧ stepOf s.ref a b ≠ .s0 ∧
      s.decodePoll a b = { s with
        aS := a, bS := b, curStep := stepOf s.ref a b, prevStep := stepOf s.ref a b,
        acc := s.acc + delta s.prevStep (stepOf s.ref a b),
        resp := pollResponse .neutral false, calls := [s.pinSample] }) ∨
    (stepOf s.ref a b = .s0 ∧
      s.decodePoll a b = { s with
        aS := a, bS := b, curStep := .s0, prevStep := .s0, cycleFinished := true, acc := 0,
        position := s.position + (dirOfAcc s.acc).dval,
        resp := pollResponse (dirOfAcc s.acc) false, calls := [s.pinSample] }) := by
  rcases ((s.sample a b).setCurStep (stepOf s.ref a b)).cycleStep_cases (stepOf s.ref a b) with
    ⟨hf, hc, h⟩ | ⟨hf, hc, h⟩ | ⟨hc, h⟩
  · exact .inl ⟨hf, hc, by rw [State.decodePoll, h]; rfl⟩
  · exact .inr (.inl ⟨hf, hc, by rw [State.decodePoll, h]; rfl⟩)
  · exact .inr (.inr ⟨hc, by rw [State.decodePoll, h, hc]; rfl⟩)

/-! ### The polls of POLL.EDGE and the first polls, written out -/

theorem State.firstPoll_eq (s : State) (a b : Level) :
    s.firstPoll a b = { s with
      aS := a, bS := b, ref := a, dfltValid := true,
      resp := pollResponse .neutral false, calls := [s.pinSample] } := rfl

theorem State.firstEdgePoll_eq (s : State) (a b : Level) :
    s.firstEdgePoll a b = { s with
      aS := a, bS := b, ref := a, dfltValid := true,
      resp := pollResponse .neutral false, calls := [s.pinSample] } := rfl

theorem State.settledPoll_eq (s : State) (a b : Level) :
    s.settledPoll a b = { s with
      aS := a, bS := b, ref := b, settling := false,
      position := s.position + (edgeDir a b).dval,
      resp := pollResponse (edgeDir a b) true, calls := [s.pinSample, s.gateCall] } := rfl

theorem State.waitingPoll_eq (s : State) (a b : Level) :
    s.waitingPoll a b = { s with
      aS := a, bS := b, settling := true,
      resp := pollResponse .neutral true, calls := [s.pinSample, s.gateCall] } := rfl

theorem State.restingPoll_eq (s : State) (a b : Level) :
    s.restingPoll a b = { s with
      aS := a, bS := b, settling := false,
      resp := pollResponse .neutral false, calls := [s.pinSample] } := rfl

theorem settleInProgress_iff {v : Bool} {b r : Level} :
    settleInProgress v b r = true ↔ v = true ∨ b ≠ r := by
  simp [settleInProgress, offDefault]

theorem gateFinished_iff {db : GateCode} : gateFinished db = true ↔ db = .finished := by
  cases db <;> decide

/-! ### The meanings -/

theorem execConstruct_next {c : CtorInputs} :
    execConstruct c s = .next t ↔ ∃ h : c.wellFormed = true, t = s.construct (configurationOf c h) := by
  by_cases h : c.wellFormed = true <;> simp [execConstruct, h, eq_comm]

theorem execConstruct_refused {c : CtorInputs} {r : Refusal} :
    execConstruct c s = .refused r ↔ c.wellFormed = false ∧ r = .zeroDetents := by
  by_cases h : c.wellFormed = true <;> simp [execConstruct, h, eq_comm]

theorem execNop_next : execNop s = .next t ↔ s.live = true ∧ t = s.answer .idle [] :=
  State.ifLive_next

theorem execGetposDet_next :
    execGetposDet s = .next t ↔
      s.live = true ∧ t = s.answer (getposResponse (.int s.position)) [] :=
  State.ifLive_next

theorem execGetposDeg_next :
    execGetposDeg s = .next t ↔
      s.live = true ∧ t = s.answer (getposResponse (.num s.degrees)) [] :=
  State.ifLive_next

/-- Everything a POLL.C4 can do: the first poll, or a decoding poll. -/
theorem execPollC4_next {a b : Level} :
    execPollC4 a b s = .next t ↔
      s.live = true ∧ s.cfg.strategy = .cycle4 ∧
        t = if s.dfltValid then s.decodePoll a b else s.firstPoll a b :=
  State.ifStrategy_next

/-- Everything a POLL.EDGE can do: the first poll, a resting, a waiting or a settled one. -/
theorem execPollEdge_next {a b : Level} {db : GateCode} :
    execPollEdge a b db s = .next t ↔
      s.live = true ∧ s.cfg.strategy = .edge ∧
        t = if s.dfltValid then
              if settleInProgress s.settling b s.ref then
                if gateFinished db then s.settledPoll a b else s.waitingPoll a b
              else s.restingPoll a b
            else s.firstEdgePoll a b :=
  State.ifStrategy_next

end Sys2Proof.Machine
end

