-- ==== Sys2Proof/Laws/PerInstr.lean ====
section
/-! SUPPORT. For every operation: the word the encoder writes for it is one its own row of the opcode table selects
(spec/30_encoding.md R67). -/

namespace Sys2Proof.Laws.RowSelected

/-- The encoded word of `i` meets the mask and the pattern of `i`'s row. -/
def Statement (i : Instr) : Prop := (encode i).stim &&& i.row.mask = i.row.pattern

theorem construct (c : CtorInputs) : Statement (.construct c) :=
  (by decide : stimWord 1#1 0#2 0#2 0#1 0#1 &&& 0x40#7 = 0x40#7)

theorem nop : Statement .nop := by
  unfold Statement; decide

theorem pollC4 (a b : Level) : Statement (.pollC4 a b) := by
  unfold Statement; cases a <;> cases b <;> decide

theorem pollEdge (a b : Level) (db : GateCode) : Statement (.pollEdge a b db) := by
  unfold Statement; cases a <;> cases b <;> cases db <;> decide

theorem getposDet : Statement .getposDet := by
  unfold Statement; decide

theorem getposDeg : Statement .getposDeg := by
  unfold Statement; decide

end Sys2Proof.Laws.RowSelected
end

