-- ==== Sys2Proof/Laws/Step.lean ====
section
/-! SUPPORT. What one step and one run can do, said once. -/

namespace Sys2Proof.Machine

variable {s t : State}

theorem State.takeEvent_present (s : State) (e : Event) : (s.present e).takeEvent = some (e, s) := rfl

theorem step_of_inbox_nil (h : s.inbox = []) : step s = .next s := by
  simp [step, State.takeEvent, h]

theorem step_of_inbox_cons {e : Event} {rest : List Event} (h : s.inbox = e :: rest) :
    step s = exec (decode s.cfg.strategy e) { s with inbox := rest } := by
  simp [step, State.takeEvent, h]

/-- A presented event is the one executed, on the state it was presented in. -/
@[simp] theorem step_present (s : State) (e : Event) :
    step (s.present e) = exec (decode s.cfg.strategy e) s := rfl

/-- Everything a step can do. -/
theorem step_cases (h : step s = .next t) :
    (s.inbox = [] ∧ t = s) ∨
    ∃ e rest, s.inbox = e :: rest ∧
      exec (decode s.cfg.strategy e) { s with inbox := rest } = .next t := by
  rcases hi : s.inbox with _ | ⟨e, rest⟩
  · rw [step_of_inbox_nil hi] at h
    exact .inl ⟨rfl, by injection h with h; exact h.symm⟩
  · exact .inr ⟨e, rest, rfl, step_of_inbox_cons hi ▸ h⟩

@[simp] theorem runEvents_nil (s : State) : runEvents [] s = .next (s, []) := rfl

/-- A run over a first event and more completes exactly when the step and the rest do. -/
theorem runEvents_cons_next {e : Event} {es : List Event} {u : State} {rs : List Response} :
    runEvents (e :: es) s = .next (u, rs) ↔
      ∃ t rs', exec (decode s.cfg.strategy e) s = .next t ∧ runEvents es t = .next (u, rs') ∧
        rs = t.resp :: rs' := by
  rw [runEvents, step_present]
  cases hx : exec (decode s.cfg.strategy e) s with
  | next t =>
    cases hr : runEvents es t with
    | next p =>
      simp only [Host.Outcome.next.injEq, exists_and_left, exists_eq_left', hr, Prod.ext_iff]
      constructor
      · rintro ⟨h₁, h₂⟩; exact ⟨p.2, ⟨h₁, rfl⟩, h₂.symm⟩
      · rintro ⟨rs', ⟨h₁, rfl⟩, h₂⟩; exact ⟨h₁, h₂.symm⟩
    | fault r => cases r
    | refused r => simp [hr]
  | fault r => cases r
  | refused r => simp

/-- One run after another. -/
theorem runEvents_append_next {es es' : List Event} {u : State} {rs : List Response} :
    runEvents (es ++ es') s = .next (u, rs) ↔
      ∃ t rs₁ rs₂, runEvents es s = .next (t, rs₁) ∧ runEvents es' t = .next (u, rs₂) ∧
        rs = rs₁ ++ rs₂ := by
  induction es generalizing s rs with
  | nil =>
    constructor
    · intro h; exact ⟨s, [], rs, rfl, h, rfl⟩
    · rintro ⟨t, rs₁, rs₂, h, h', rfl⟩
      simp only [runEvents_nil, Host.Outcome.next.injEq, Prod.mk.injEq] at h
      obtain ⟨rfl, rfl⟩ := h
      exact h'
  | cons e es ih =>
    simp only [List.cons_append, runEvents_cons_next, ih]
    constructor
    · rintro ⟨t, rs', h, ⟨v, r₁, r₂, h₁, h₂, rfl⟩, rfl⟩
      exact ⟨v, t.resp :: r₁, r₂, ⟨t, r₁, h, h₁, rfl⟩, h₂, rfl⟩
    · rintro ⟨v, r₁, r₂, ⟨t, r', h, h₁, rfl⟩, h₂, rfl⟩
      exact ⟨t, r' ++ r₂, h, ⟨v, r', r₂, h₁, h₂, rfl⟩, rfl⟩

/-! ### The gray ring -/

theorem winding_cons {p c : StepCode} {cs : List StepCode} {w : Int} :
    winding p (c :: cs) = some w ↔
      ∃ d w', ringMove p c = some d ∧ winding c cs = some w' ∧ w = d + w' := by
  rw [winding]; cases ringMove p c <;> cases winding c cs <;> simp [eq_comm]

/-- Gray-validity from `p` on (R119) is that every two consecutive codes are near, `p` included (R190). -/
theorem grayFrom_iff_isChain {p : StepCode} {cs : List StepCode} :
    grayFrom p cs ↔ (p :: cs).IsChain ringNear := by
  induction cs generalizing p with
  | nil => simp [grayFrom, winding]
  | cons c cs ih =>
    rw [List.isChain_cons_cons, ← ih, grayFrom, grayFrom, ringNear, winding]
    cases ringMove p c <;> cases winding c cs <;> simp

end Sys2Proof.Machine
end

