-- ==== Sys2Proof/Tests/Slice0.lean ====
section
/-! SUPPORT. Tests of the model: the well-formedness smoke test, words decoded bit by bit (spec/95_test_vectors.md V40),
single steps (Parts 3, 5 and 6 of that file), and for every statement with hypotheses a witness that meets them
together. Expected values come from the spec's vectors, whose names stand in the comments. -/

namespace Sys2Proof.Tests

open Sys2Proof.Machine

/-! ### States to test on -/

/-- A live CYCLE4 state written as R118 writes it. -/
def c4 (v : Bool) (r : Level) (p : StepCode) (k : Int) (f : Bool) (n : Int) : State :=
  { State.reset with dfltValid := v, ref := r, prevStep := p, acc := k, cycleFinished := f, position := n }

/-- A live EDGE state written as R144 writes it. -/
def edge (v : Bool) (r : Level) (s : Bool) (n : Int) : State :=
  { State.reset with
    cfg := { State.reset.cfg with strategy := .edge }, dfltValid := v, ref := r, settling := s, position := n }

/-- The outcome is a next state that passes the check. -/
def passes (o : Host.Outcome State Fault Refusal) (p : State → Bool) : Bool :=
  match o with
  | .next t => p t
  | .fault _ => false
  | .refused _ => false

/-- The outcome is this refusal. -/
def refusedBy (o : Host.Outcome State Fault Refusal) (r : Refusal) : Bool :=
  match o with
  | .next _ => false
  | .fault _ => false
  | .refused r' => decide (r' = r)

/-- The run completes with these directions. -/
def reportsDirs (o : Host.Outcome (State × List Response) Fault Refusal) (ds : List Dir) : Bool :=
  match o with
  | .next (_, rs) => rs.map Response.dir == ds
  | .fault _ => false
  | .refused _ => false

/-! ### Well-formedness (R92) -/

theorem test_wellFormed_refuses_zero_detents :
    (Instr.construct { pinA := 2, pinB := 3, detents := some 0 }).wellFormed = false := by decide

theorem test_wellFormed_admits_one_detent_and_equal_pins :
    (Instr.construct ⟨2, 2, some 0, some 1, some 0, none⟩).wellFormed = true := by decide

theorem test_wellFormed_admits_the_defaults :
    (Instr.construct { pinA := 2, pinB := 3 }).wellFormed = true := by decide

/-! ### Decoding (V40), each word bit by bit: `rst`, `op`, `db`, `b`, `a` -/

theorem test_decode_construct : decode .edge ⟨0b1011011#7, .example23⟩ = .construct .example23 := by decide
theorem test_decode_construct_all_ones :
    decode .cycle4 ⟨0b1111111#7, .example23⟩ = .construct .example23 := by decide
theorem test_decode_nop : decode .cycle4 ⟨0b0001111#7, .example23⟩ = .nop := by decide
theorem test_decode_pollC4_a_is_bit0 :
    decode .cycle4 ⟨0b0010001#7, .example23⟩ = .pollC4 .high .low := by decide
theorem test_decode_pollC4_db_unread :
    decode .cycle4 ⟨0b0011010#7, .example23⟩ = .pollC4 .low .high := by decide
theorem test_decode_pollEdge_finished :
    decode .edge ⟨0b0011010#7, .example23⟩ = .pollEdge .low .high .finished := by decide
theorem test_decode_pollEdge_reserved :
    decode .edge ⟨0b0011111#7, .example23⟩ = .pollEdge .high .high .reserved3 := by decide
theorem test_decode_getposDet : decode .edge ⟨0b0101111#7, .example23⟩ = .getposDet := by decide
theorem test_decode_getposDeg : decode .cycle4 ⟨0b0110000#7, .example23⟩ = .getposDeg := by decide

theorem test_decodeTableWord : decodeTableWord 8 0x10 = some (.pollC4 .low .low) := by decide
theorem test_decodeTableWord_eighth_bit : decodeTableWord 8 0x80 = none := by decide

/-- V40, R75: what the encoder and the assembler write. -/
theorem test_encode_words :
    (encode (.construct .example23)).stim = 0x40#7 ∧ (encode .nop).stim = 0x00#7 ∧
    (encode (.pollC4 .high .low)).stim = 0x11#7 ∧ (encode (.pollEdge .low .high .finished)).stim = 0x1A#7 ∧
    (encode .getposDet).stim = 0x20#7 ∧ (encode .getposDeg).stim = 0x30#7 ∧
    ((AsmLine.poll .high .high (some .ongoing)).assemble .low).stim = 0x17#7 := by decide

/-- R75: the text of lines. -/
theorem test_asm_text :
    (AsmLine.poll .low .high (some .finished)).text = "POLL 0, 1, FIN" ∧
    (AsmLine.construct { pinA := 2, pinB := 3, strategy := some .edge }).text =
      "CONSTRUCT pinA=2 pinB=3 strategy=EDGE" := by decide

/-! ### The first step after reset -/

theorem test_first_step_polls :
    passes (step (State.reset.withFetchWord 8 0x11)) (fun t => t.dfltValid && t.ref == .high && t.inbox == []) = true := by
  decide

theorem test_first_step_reads_out :
    passes (step (State.reset.withFetchWord 8 0x20)) (fun t => t.resp == ⟨.neutral, false, .int 0⟩) = true := by
  decide

/-! ### CONSTRUCT and NOP (V38, V39) -/

/-- V38: on a live instance with position 7 and accumulator 1. -/
theorem test_construct_on_a_live_instance :
    passes (exec (.construct { pinA := 2, pinB := 3, detents := some 20 }) (c4 true .high .s2 1 false 7))
      (fun t => t.position == 0 && t.acc == 0 && !t.dfltValid && t.cycleFinished && t.prevStep == .s0 &&
        t.cfg == ⟨2, 3, 70, 20, 360, .cycle4, by decide⟩) = true := by decide

/-- V38: zero detents. -/
theorem test_construct_zero_detents :
    refusedBy (exec (.construct { pinA := 2, pinB := 3, detents := some 0 }) State.reset) .zeroDetents = true := by
  decide

/-- V39: a NOP in the middle of a cycle. -/
theorem test_nop_holds :
    passes (exec .nop (c4 true .low .s2 1 false 5))
      (fun t => t.c4View == (true, .low, .s2, 1, false, 5) && t.resp == ⟨.neutral, false, .none⟩) = true := by decide

/-- V39: a NOP while a settle is in progress does not call the gate. -/
theorem test_nop_does_not_continue_the_settle :
    passes (exec .nop (edge true .low true 0)) (fun t => t.settling && !t.resp.gateReq && t.calls == []) = true := by
  decide

/-! ### POLL.C4 (Part 3) -/

/-- S41: reference High, the closing poll of a forward cycle. -/
theorem test_pollC4_closes_positive :
    passes (exec (.pollC4 .high .high) (c4 true .high .s3 2 false 5))
      (fun t => t.c4View == (true, .high, .s0, 0, true, 6) && t.resp == ⟨.positive, false, .none⟩) = true := by decide

/-- S18: a decrement. -/
theorem test_pollC4_decrements :
    passes (exec (.pollC4 .high .low) (c4 true .low .s2 (-1) false 5))
      (fun t => t.c4View == (true, .low, .s1, -2, false, 5) && t.resp.dir == .neutral && t.curStep == .s1) = true := by
  decide

/-! ### POLL.EDGE (V20, V26) -/

/-- V20: the edge at which contact A equals contact B. -/
theorem test_pollEdge_finished_negative :
    passes (exec (.pollEdge .high .high .finished) (edge true .low true 0))
      (fun t => t.edgeView == (true, .high, false, -1) && t.resp == ⟨.negative, true, .none⟩) = true := by decide

/-- V24: contact B back at the reference does not end the settle, and the reserved code is not `Finished`. -/
theorem test_pollEdge_keeps_waiting :
    passes (exec (.pollEdge .low .low .reserved3) (edge true .low true 0))
      (fun t => t.edgeView == (true, .low, true, 0) && t.resp == ⟨.neutral, true, .none⟩ &&
        t.calls == [.samplePins 2 3, .beginOrContinue 3 70]) = true := by decide

/-! ### GETPOS (V32, V31) -/

theorem test_getposDet_negative :
    passes (exec .getposDet (c4 true .low .s0 0 true (-2)))
      (fun t => t.resp == ⟨.neutral, false, .int (-2)⟩ && t.position == -2) = true := by decide

/-- V31: three detents at the defaults are the number 45.0. -/
theorem test_getposDeg_three :
    (c4 true .low .s0 0 true 3).degrees = Config.num.num45 := by
  rw [← Config.num.degrees_example, ← Config.num.scale_example]; rfl

/-! ### The finite realisation (R11) -/

/-- A position of 3 bits holds 3 and not 4. -/
theorem test_finite_position_leaves_its_width :
    refusedBy (stepWithin ⟨some 3, some 3, none⟩ ((c4 true .low .s3 2 false 3).present (pollEvent .low .low .notStarted)))
      .beyondWidth = true ∧
    passes (stepWithin ⟨some 3, some 3, none⟩ ((c4 true .low .s3 2 false 2).present (pollEvent .low .low .notStarted)))
      (fun t => t.position == 3) = true := by decide

/-! ### Witnesses: the hypotheses of each statement are met together -/

theorem witness_StepRunsTheDecodedOperation :
    (State.reset.withFetchWord 8 0).inbox = [⟨0x00#7, .example23⟩] ∧ State.reset.inbox = [] := ⟨rfl, rfl⟩

theorem witness_OpcodeTable_and_DecodeEncode :
    (Instr.pollEdge .low .high .finished).under .edge = true ∧ (Instr.pollC4 .low .high).under .cycle4 = true ∧
    OpRow.pollEdge ∈ opTable ∧ OpRow.pollEdge.selects .edge 0x1A#7 = true ∧
    encode (.pollC4 .low .high) = encode (.pollC4 .low .high) := by decide

theorem witness_RstWinsOverOp : (0x5B#7).getLsbD 6 = true := by decide

/-- 0x40 and 0x5B; 0x00 and 0x0F; 0x12 and 0x1A; under EDGE the same `db`. -/
theorem witness_UnreadFieldsAreIgnored :
    (rstField 0x40#7 = rstField 0x5B#7 ∧ rstField 0x40#7 = 1#1) ∧
    (rstField 0x00#7 = 0#1 ∧ opField 0x00#7 = opField 0x0F#7 ∧ opField 0x00#7 ≠ 0b01#2) ∧
    (opField 0x12#7 = opField 0x1A#7 ∧ aField 0x12#7 = aField 0x1A#7 ∧ bField 0x12#7 = bField 0x1A#7 ∧
      dbField 0x1A#7 = dbField 0x1B#7) := by decide

theorem witness_DirCodes : ∃ t, step State.reset = .next t := ⟨_, rfl⟩

theorem witness_MacrosExpandAsListed : stepOf .high .low .low = .s2 := by decide

theorem witness_ConstructWritesTheInitialState : CtorInputs.example23.wellFormed = true := by decide

theorem witness_NopHoldsEverything : State.reset.live = true := rfl

theorem witness_ConstructEndsTheLifetimeBefore :
    isConstruct ⟨0x5B#7, .example23⟩ = true ∧ CtorInputs.example23.wellFormed = true := by decide

theorem witness_NothingRunsBeforeConstruct :
    State.beforeConstruct.live = false ∧ isConstruct ⟨0x10#7, .example23⟩ = false ∧
    isConstruct ⟨0x40#7, .example23⟩ = true ∧ CtorInputs.example23.wellFormed = true :=
  ⟨rfl, by decide, by decide, by decide⟩

theorem witness_ResetIsThePlainConstruct :
    ∃ t, exec (.construct { pinA := 2, pinB := 3 }) State.beforeConstruct = .next t := ⟨_, rfl⟩

/-- A decoding CYCLE4 state in each branch: (a), (b), (c). -/
theorem witness_Classify_and_Delta :
    (c4 true .low .s2 1 false 5).decodesBy .cycle4 ∧ (c4 true .low .s2 1 false 5).dfltValid = true ∧
    (c4 true .low .s2 1 false 5).cycleFinished = false ∧
    stepOf (c4 true .low .s2 1 false 5).ref .low .high ≠ .s0 ∧ ringMove .s3 .s0 = some 1 ∧
    ringMove .s0 .s3 = some (-1) :=
  ⟨⟨rfl, rfl⟩, rfl, rfl, by decide, rfl, rfl⟩

theorem witness_FirstPollRecordsContactA :
    State.reset.decodesBy .cycle4 ∧ State.reset.dfltValid = false ∧ Level.low ≠ Level.high ∧ Level.low = Level.low :=
  ⟨⟨rfl, rfl⟩, rfl, by decide, rfl⟩

/-- One state for each row of R118: first poll, (a), (b), (c) with a positive, a negative and a zero accumulator. -/
theorem witness_PollC4AsOneFunction :
    (c4 false .low .s0 0 true 0).decodesBy .cycle4 ∧
    (let s := c4 true .low .s0 0 true 5; s.decodesBy .cycle4 ∧ stepOf s.ref .high .low ≠ .s0 ∧ s.cycleFinished = true) ∧
    (let s := c4 true .low .s1 0 false 5; s.decodesBy .cycle4 ∧ stepOf s.ref .high .high ≠ .s0 ∧ s.cycleFinished = false) ∧
    (let s := c4 true .high .s1 1 false 5; s.decodesBy .cycle4 ∧ stepOf s.ref .high .high = .s0 ∧ 0 < s.acc) ∧
    (let s := c4 true .low .s1 (-1) false 5; s.decodesBy .cycle4 ∧ stepOf s.ref .low .low = .s0 ∧ s.acc < 0) ∧
    (let s := c4 true .low .s1 0 false 5; s.decodesBy .cycle4 ∧ stepOf s.ref .low .low = .s0 ∧ s.acc = 0) := by
  refine ⟨⟨rfl, rfl⟩, ⟨⟨rfl, rfl⟩, ?_⟩, ⟨⟨rfl, rfl⟩, ?_⟩, ⟨⟨rfl, rfl⟩, ?_⟩, ⟨⟨rfl, rfl⟩, ?_⟩, ⟨rfl, rfl⟩, ?_⟩ <;> decide

/-- For StepZeroHeals and RepeatedSampleChangesNothing. -/
theorem witness_decoding_poll_at_step_zero :
    (c4 true .high .s3 7 false 5).decodesBy .cycle4 ∧ (c4 true .high .s3 7 false 5).dfltValid = true ∧
    stepOf (c4 true .high .s3 7 false 5).ref .high .high = .s0 ∧
    ∃ t, exec (.pollC4 .high .high) (c4 true .high .s3 7 false 5) = .next t :=
  ⟨⟨rfl, rfl⟩, rfl, by decide, _, rfl⟩

/-- For CleanCycleReportsOnce, ReversedCycleReportsNothing, GrayValidCycleClosedForm, NoSkipCountsEveryDetent: the rest
state, with a gray-valid cycle for each clause (in at 1 and out at 3, in at 3 and out at 1, in and out at 1, in and out
at 3). -/
theorem witness_rest_state_and_gray_valid_cycles :
    (c4 true .high .s0 0 true 5).decodesBy .cycle4 ∧ (c4 true .high .s0 0 true 5).atRest ∧
    (winding .s0 ([.s1, .s2, .s3] ++ [.s0]) = some 4 ∧ winding .s0 ([.s3, .s2, .s1] ++ [.s0]) = some (-4) ∧
      winding .s0 ([.s1, .s2, .s1] ++ [.s0]) = some 0 ∧ winding .s0 ([.s3] ++ [.s0]) = some 0 ∧ winding .s0 [] = some 0) ∧
    StepCode.s0 ∉ [StepCode.s1, .s2, .s3] :=
  ⟨⟨rfl, rfl⟩, ⟨rfl, rfl, rfl, rfl⟩, ⟨rfl, rfl, rfl, rfl, rfl⟩, by decide⟩

/-- For ReversedCycleReportsNothing: advances that retrace the steps they were seen at, that is, read the same backwards (1,2,3,2,1; entered at 3; a skip 1,3,1), and
one whose net move is zero though it does not (1,2,3,2,1,2,1). -/
theorem witness_ReversedCycleReportsNothing :
    (StepCode.s0 ∉ [StepCode.s1, .s2, .s3, .s2, .s1] ∧
      [StepCode.s1, .s2, .s3, .s2, .s1].reverse = [.s1, .s2, .s3, .s2, .s1]) ∧
    [StepCode.s3, .s2, .s3].reverse = [.s3, .s2, .s3] ∧ [StepCode.s1, .s3, .s1].reverse = [.s1, .s3, .s1] ∧
    winding .s0 ([.s1, .s2, .s3, .s2, .s1, .s2, .s1] ++ [.s0]) = some 0 := by decide

/-- A first POLL, a NOP, POLLs with `db` set and a read-out between them, in a lifetime of the plain CONSTRUCT. -/
def mixedTrace : List Event :=
  [0x10#7, 0x00#7, 0x11#7, 0x1B#7, 0x20#7, 0x12#7, 0x10#7].map (Event.mk · .example23)

/-- R190: only the decoding polls are seen; the first POLL, the NOP and the read-out are not. -/
theorem test_decodingSteps :
    decodingSteps none mixedTrace = [.s1, .s2, .s3, .s0] ∧
    decodingSteps none (mixedTrace ++ [⟨0x40#7, .example23⟩, ⟨0x10#7, .example23⟩, ⟨0x13#7, .example23⟩]) =
      [.s1, .s2, .s3, .s0] := by decide

/-- The mixed trace meets `NoSkip`. -/
theorem witness_noSkip : NoSkip (⟨0x40#7, .example23⟩ :: mixedTrace) := by
  intro e rest h hb
  rcases List.suffix_cons_iff.1 h with h | h
  · obtain ⟨-, rfl⟩ := List.cons.inj h
    rw [test_decodingSteps.1]; unfold ringNear; decide
  · have : e ∈ mixedTrace := h.subset (List.mem_cons_self ..)
    have hn : ∀ d ∈ mixedTrace, isConstruct d = false := by decide
    exact absurd hb.1 (by simp [hn e this])

/-- For NoSkipOfTheTraceCountsEveryDetent: (a) the mixed trace; (b) and (c) the same events after the first POLL, from the
rest state; (d) the two traces that skip. -/
theorem witness_NoSkipOfTheTraceCountsEveryDetent :
    (beginsCycle4 ⟨0x40#7, .example23⟩ ∧ CtorInputs.example23.wellFormed = true ∧
      (∀ d ∈ mixedTrace, isConstruct d = false) ∧ ringNear .s0 .s1 ∧
      (decodingSteps none mixedTrace).getLast? = some .s0) ∧
    ((c4 true .low .s0 0 true 5).decodesBy .cycle4 ∧ (c4 true .low .s0 0 true 5).atRest ∧
      (c4 true .low .s0 0 true 5).ref = .low) ∧
    (winding .s0 (decodingSteps (some .low) mixedTrace.tail) = some 4 ∧
      (decodingSteps (some .low) mixedTrace.tail).getLast? = some .s0) ∧
    decodingSteps (some .low) ([0x13#7, 0x10#7].map (Event.mk · .example23)) = [.s2, .s0] ∧
    decodingSteps (some .low) ([0x12#7, 0x13#7, 0x10#7].map (Event.mk · .example23)) = [.s3, .s2, .s0] :=
  ⟨⟨⟨by decide, by decide⟩, by decide, by decide, by unfold ringNear; decide, by decide⟩,
    ⟨⟨rfl, rfl⟩, ⟨rfl, rfl, rfl, rfl⟩, rfl⟩, by decide, by decide, by decide⟩

/-- For Cycle4NeverUsesTheGate and ReferenceIsFixedUnderCycle4: 0x12 against 0x1A. -/
theorem witness_cycle4_events_with_other_db :
    (c4 true .low .s0 0 true 0).cfg.strategy = .cycle4 ∧ (c4 true .low .s0 0 true 0).dfltValid = true ∧
    (∀ e ∈ [(⟨0x12#7, .example23⟩ : Event)], isConstruct e = false) ∧
    List.Forall₂ (fun e e' : Event => rstField e.stim = rstField e'.stim ∧ opField e.stim = opField e'.stim ∧
      bField e.stim = bField e'.stim ∧ aField e.stim = aField e'.stim)
      [⟨0x12#7, .example23⟩] [⟨0x1A#7, .example23⟩] ∧
    ∃ p, runEvents [⟨0x12#7, .example23⟩] (c4 true .low .s0 0 true 0) = .next p :=
  ⟨rfl, rfl, by decide, .cons (by decide) .nil, _, rfl⟩

theorem witness_PositionMovesWithTheResult :
    (∃ t, exec (.pollC4 .low .low) (c4 true .low .s3 2 false 5) = .next t) ∧
    ∃ t, exec (.pollEdge .low .high .finished) (edge true .low true 5) = .next t := ⟨⟨_, rfl⟩, ⟨_, rfl⟩⟩

theorem witness_FirstEdgePollRecordsContactA :
    (edge false .low false 0).decodesBy .edge ∧ (edge false .low false 0).dfltValid = false ∧ Level.high ≠ Level.low :=
  ⟨⟨rfl, rfl⟩, rfl, by decide⟩

/-- One state for each row of R144; the settle carried over with contact B at the reference, and the one started now. -/
theorem witness_PollEdgeAsOneFunction :
    (edge false .low false 0).decodesBy .edge ∧
    (let s := edge true .low false 0; s.decodesBy .edge ∧ s.dfltValid = true ∧ s.settling = false ∧ Level.low = s.ref) ∧
    (let s := edge true .low true 0; s.decodesBy .edge ∧ (s.settling = true ∨ Level.low ≠ s.ref)) ∧
    (let s := edge true .low false 0; s.decodesBy .edge ∧ (s.settling = true ∨ Level.high ≠ s.ref)) ∧
    GateCode.reserved3 ≠ .finished :=
  ⟨⟨rfl, rfl⟩, ⟨⟨rfl, rfl⟩, rfl, rfl, rfl⟩, ⟨⟨rfl, rfl⟩, .inl rfl⟩, ⟨⟨rfl, rfl⟩, .inr (by decide)⟩, by decide⟩

theorem witness_GateIsCalledExactlyWhileSettling :
    (∃ t, exec (.pollEdge .low .low .ongoing) (edge true .low true 0) = .next t) ∧
    (∃ t, exec (.pollEdge .low .low .finished) (edge true .low false 0) = .next t) ∧
    (edge true .low true 0).decodesBy .edge ∧ (edge true .low true 0).settling = true :=
  ⟨⟨_, rfl⟩, ⟨_, rfl⟩, ⟨rfl, rfl⟩, rfl⟩

/-- V29 without its last event: waiting polls with contact B bouncing; and V22, `Finished` while nothing is called. -/
theorem witness_NothingAdvancesBetweenFinished :
    (edge true .high false 0).decodesBy .edge ∧ (edge true .high false 0).dfltValid = true ∧
    reportsDirs (runEvents [⟨0x1B#7, .example23⟩, ⟨0x15#7, .example23⟩, ⟨0x17#7, .example23⟩] (edge true .high false 0))
      [.neutral, .neutral, .neutral] = true :=
  ⟨⟨rfl, rfl⟩, rfl, by decide⟩

/-- V29: the settle of one edge. -/
theorem witness_OneResultPerSettledEdge :
    (edge true .high false 0).decodesBy .edge ∧ (edge true .high false 0).settling = false ∧
    (PollInput.mk .high .low .ongoing).b ≠ (edge true .high false 0).ref ∧
    (PollInput.mk .high .low .ongoing).db ≠ .finished ∧
    (∀ w ∈ [PollInput.mk .high .high .ongoing, .mk .high .low .ongoing], w.db ≠ .finished) ∧
    (PollInput.mk .high .low .finished).db = .finished :=
  ⟨⟨rfl, rfl⟩, rfl, by decide, by decide, by decide, rfl⟩

theorem witness_EdgeAndCycle4DifferInCountAndSign :
    (edge true .low false 0).decodesBy .edge ∧ (edge true .low false 0).settling = false ∧
    (c4 true .low .s0 0 true 0).decodesBy .cycle4 ∧ (c4 true .low .s0 0 true 0).atRest :=
  ⟨⟨rfl, rfl⟩, rfl, ⟨rfl, rfl⟩, ⟨rfl, rfl, rfl, rfl⟩⟩

theorem witness_inv_of_reset : State.reset.inv := by
  refine fun _ => ⟨⟨by decide, rfl⟩, fun _ => ?_, fun h => by simp [State.reset] at h⟩
  simp [State.cycleInv, State.reset]

/-- For GetposDegAnswersTheProduct and StepKeepsTheInvariants. -/
theorem witness_live_state_with_inv : State.reset.live = true ∧ State.reset.inv ∧ ∃ t, step State.reset = .next t :=
  ⟨rfl, witness_inv_of_reset, _, rfl⟩

/-- For ThreeDetentsAreFortyFiveDegrees and PositionIsTheSumOfReports: P2 in the short, three cycles forward. -/
theorem witness_three_detents :
    isConstruct ⟨0x40#7, .example23⟩ = true ∧ CtorInputs.example23.detents.getD 24 = 24 ∧
    CtorInputs.example23.maxAngle.getD 360 = 360 ∧
    (match runEvents (⟨0x40#7, .example23⟩ :: [0x10#7, 0x11#7, 0x13#7, 0x12#7, 0x10#7, 0x11#7, 0x13#7, 0x12#7, 0x10#7,
        0x11#7, 0x13#7, 0x12#7, 0x10#7].map (Event.mk · .example23)) State.beforeConstruct with
      | .next (t, _) => t.position == 3
      | .fault _ => false
      | .refused _ => false) = true := by decide

/-- For GetposIsPure: a read-out between two polls of a cycle, and a run of NOP and read-out alone. -/
theorem witness_GetposIsPure :
    (c4 true .low .s1 0 false 5).live = true ∧ isConstruct ⟨0x20#7, .example23⟩ = false ∧
    (opField 0x20#7 = 0b10#2 ∧ opField 0x30#7 = 0b11#2 ∧ opField 0x00#7 ≠ 0b01#2) ∧
    (∃ p, runEvents [⟨0x13#7, .example23⟩, ⟨0x20#7, .example23⟩, ⟨0x12#7, .example23⟩] (c4 true .low .s1 0 false 5) = .next p) ∧
    ∃ p, runEvents [⟨0x00#7, .example23⟩, ⟨0x20#7, .example23⟩] (c4 true .low .s1 0 false 5) = .next p :=
  ⟨rfl, by decide, by decide, ⟨_, rfl⟩, ⟨_, rfl⟩⟩

/-- For ReadOutSeesThePollBefore, EveryOperationWritesOnlyItsElements and ConfigurationIsFixedForALifetime: every
operation completes somewhere. -/
theorem witness_every_operation_completes :
    (∃ t, exec (.construct .example23) State.beforeConstruct = .next t) ∧ (∃ t, exec .nop State.reset = .next t) ∧
    (∃ t, exec (.pollC4 .low .low) State.reset = .next t) ∧
    (∃ t, exec (.pollEdge .low .low .notStarted) (edge false .low false 0) = .next t) ∧
    (∃ t, exec .getposDet State.reset = .next t) ∧ ∃ t, exec .getposDeg State.reset = .next t :=
  ⟨⟨_, rfl⟩, ⟨_, rfl⟩, ⟨_, rfl⟩, ⟨_, rfl⟩, ⟨_, rfl⟩, ⟨_, rfl⟩⟩

/-- For RowZeroOfDeltaIsNotExercised: a reachable state in the middle of a cycle, and the rest state. -/
theorem witness_RowZeroOfDeltaIsNotExercised :
    ((c4 true .low .s2 1 false 5).inv ∧ (c4 true .low .s2 1 false 5).decodesBy .cycle4 ∧
      branchOf (c4 true .low .s2 1 false 5).cycleFinished (stepOf Level.low .low .high) = .accumulates) ∧
    ((c4 true .low .s0 0 true 5).inv ∧ stepOf Level.low .low .low = .s0) := by
  refine ⟨⟨fun _ => ⟨⟨by decide, rfl⟩, fun _ => ?_, fun h => by simp [c4, State.reset] at h⟩, ⟨rfl, rfl⟩, by decide⟩,
    fun _ => ⟨⟨by decide, rfl⟩, fun _ => ?_, fun h => by simp [c4, State.reset] at h⟩, by decide⟩ <;>
    simp [State.cycleInv, c4, State.reset]

/-- For NoOperationFails: an admitted stream, and the two refusals of a step. -/
theorem witness_NoOperationFails :
    State.reset.live = true ∧ (∀ e ∈ [(⟨0x5B#7, .example23⟩ : Event), ⟨0x1F#7, .example23⟩], admitted e = true) ∧
    refusedBy (step (State.beforeConstruct.withFetchWord 8 0x20)) .noneConstructed = true ∧
    refusedBy (step (State.reset.present ⟨0x40#7, { pinA := 2, pinB := 3, detents := some 0 }⟩)) .zeroDetents = true :=
  ⟨rfl, by decide, by decide, by decide⟩

theorem witness_StrategiesNeverMix :
    (edge true .low false 0).decodesBy .edge ∧ (c4 true .low .s0 0 true 0).decodesBy .cycle4 := ⟨⟨rfl, rfl⟩, rfl, rfl⟩

/-- For DroppableStateIsNeverSeen: before the first poll the reference may differ, after it the sample pair. -/
theorem witness_DroppableStateIsNeverSeen :
    sameForResponses (c4 false .low .s0 0 true 0) { c4 false .high .s0 0 true 0 with aS := .high, draws := 3 } ∧
    sameForResponses (c4 true .low .s0 0 true 0) { c4 true .low .s0 0 true 0 with curStep := .s3, bS := .high } :=
  ⟨⟨rfl, fun h => by simp [c4] at h⟩, rfl, fun _ => rfl⟩

/-- For FiniteRealisationAgreesInRange: the bounds of 3 bits are in range, and one step beyond is not. -/
theorem witness_FiniteRealisationAgreesInRange :
    State.fits (c4 true .low .s2 (-4) false 3) ⟨some 3, some 3, none⟩ = true ∧ 0 < 3 ∧
    State.fits (c4 true .low .s2 0 false 4) ⟨some 3, some 3, none⟩ = false ∧
    (∃ t, step (c4 true .low .s2 0 false 4) = .next t) :=
  ⟨by decide, by decide, by decide, _, rfl⟩

end Sys2Proof.Tests
end

section
/-! SUPPORT. What the decoder can give, and that no POLL of the other strategy is among it (spec/30_encoding.md R67,
R72, R73). -/

namespace Sys2Proof.Machine

/-- `rst` is tested first (R73). -/
theorem decode_of_isConstruct {e : Event} (h : isConstruct e = true) (σ : Strategy) :
    decode σ e = .construct e.cfg :=
  if_pos (beq_iff_eq.1 h)

/-- Everything an event that is no CONSTRUCT can decode to, by its field `op` (R67). -/
theorem decode_cases {e : Event} (h : isConstruct e = false) (σ : Strategy) :
    (opField e.stim = 0b00#2 ∧ decode σ e = .nop) ∨
    (opField e.stim = 0b01#2 ∧ σ = .cycle4 ∧
      decode σ e = .pollC4 (.ofCode (aField e.stim)) (.ofCode (bField e.stim))) ∨
    (opField e.stim = 0b01#2 ∧ σ = .edge ∧
      decode σ e =
        .pollEdge (.ofCode (aField e.stim)) (.ofCode (bField e.stim)) (.ofCode (dbField e.stim))) ∨
    (opField e.stim = 0b10#2 ∧ decode σ e = .getposDet) ∨
    (opField e.stim = 0b11#2 ∧ decode σ e = .getposDeg) := by
  have hrst : rstField e.stim ≠ 1#1 := beq_eq_false_iff_ne.1 h
  have hop : ∀ x : BitVec 2, x = 0b00#2 ∨ x = 0b01#2 ∨ x = 0b10#2 ∨ x = 0b11#2 := by decide
  rcases hop (opField e.stim) with h₀ | h₁ | h₂ | h₃
  · simp [decode, hrst, h₀]
  · cases σ <;> simp [decode, hrst, h₁]
  · simp [decode, hrst, h₂]
  · simp [decode, hrst, h₃]

/-- Only an event with `rst` = 1 decodes to a CONSTRUCT (R73). -/
theorem decode_ne_construct {e : Event} (h : isConstruct e = false) (σ : Strategy) (c : CtorInputs) :
    decode σ e ≠ .construct c := by
  rcases decode_cases h σ with ⟨-, hd⟩ | ⟨-, -, hd⟩ | ⟨-, -, hd⟩ | ⟨-, hd⟩ | ⟨-, hd⟩ <;> simp [hd]

/-- The decoder reads the strategy, so a POLL it gives is one of that strategy (R67). -/
theorem decode_under (σ : Strategy) (e : Event) : (decode σ e).under σ = true := by
  cases h : isConstruct e with
  | true => rw [decode_of_isConstruct h]; rfl
  | false =>
    rcases decode_cases h σ with ⟨-, hd⟩ | ⟨-, rfl, hd⟩ | ⟨-, rfl, hd⟩ | ⟨-, hd⟩ | ⟨-, hd⟩ <;>
      rw [hd] <;> rfl

/-- Settles O46: of the two guards of a POLL it is the strategy's that refuses, and the decoder reads the strategy. -/
theorem strategiesNeverMix : Obligations.StrategiesNeverMix := by
  refine ⟨fun a b s ⟨hlive, hσ⟩ => ?_, fun a b db s ⟨hlive, hσ⟩ => ?_, decode_under⟩
  · exact State.ifStrategy_refused.2 (.inr ⟨hlive, by simp [hσ], rfl⟩)
  · exact State.ifStrategy_refused.2 (.inr ⟨hlive, by simp [hσ], rfl⟩)

end Sys2Proof.Machine
end

section
/-! SUPPORT. What no operation but CONSTRUCT writes: the configuration and the scale factor are fixed for a lifetime
(spec/10_state.md R27, 70_reset_and_hazards.md R193), and so they are over a run without a CONSTRUCT. -/

namespace Sys2Proof.Machine

variable {s t u : State}

/-- `t` belongs to the lifetime of `s`: neither its being live nor its configuration and scale factor
have changed. -/
structure State.SameLifetime (s t : State) : Prop where
  live : t.live = s.live
  cfg : t.cfg = s.cfg
  scale : t.scale = s.scale

theorem State.SameLifetime.refl (s : State) : s.SameLifetime s := ⟨rfl, rfl, rfl⟩

theorem State.SameLifetime.trans (h : s.SameLifetime t) (h' : t.SameLifetime u) : s.SameLifetime u :=
  ⟨h'.live.trans h.live, h'.cfg.trans h.cfg, h'.scale.trans h.scale⟩

theorem State.decodePoll_sameLifetime (s : State) (a b : Level) : s.SameLifetime (s.decodePoll a b) := by
  rcases s.decodePoll_cases a b with ⟨-, -, h⟩ | ⟨-, -, h⟩ | ⟨-, h⟩ <;> rw [h] <;> exact ⟨rfl, rfl, rfl⟩

/-- R27: CONSTRUCT alone writes CFG and SCALE. -/
theorem exec_sameLifetime {i : Instr} (hi : ∀ c, i ≠ .construct c) (h : exec i s = .next t) :
    s.SameLifetime t := by
  cases i with
  | construct c => exact absurd rfl (hi c)
  | nop => obtain ⟨-, rfl⟩ := execNop_next.1 h; exact ⟨rfl, rfl, rfl⟩
  | pollC4 a b =>
    obtain ⟨-, -, rfl⟩ := execPollC4_next.1 h
    split
    · exact s.decodePoll_sameLifetime a b
    · exact ⟨rfl, rfl, rfl⟩
  | pollEdge a b db =>
    obtain ⟨-, -, rfl⟩ := execPollEdge_next.1 h
    split_ifs <;> exact ⟨rfl, rfl, rfl⟩
  | getposDet => obtain ⟨-, rfl⟩ := execGetposDet_next.1 h; exact ⟨rfl, rfl, rfl⟩
  | getposDeg => obtain ⟨-, rfl⟩ := execGetposDeg_next.1 h; exact ⟨rfl, rfl, rfl⟩

/-- The induction over a run: what every executed event of the kind `Q` keeps, a run over such events keeps. -/
theorem runEvents_keeps {P : State → Prop} {Q : Event → Prop}
    (hstep : ∀ (e : Event) (s t : State), Q e → P s → exec (decode s.cfg.strategy e) s = .next t → P t)
    {es : List Event} (hes : ∀ e ∈ es, Q e) {rs : List Response} (hs : P s)
    (h : runEvents es s = .next (u, rs)) : P u := by
  induction es generalizing s rs with
  | nil => cases h; exact hs
  | cons e es ih =>
    obtain ⟨t, rs', hx, hr, -⟩ := runEvents_cons_next.1 h
    rw [List.forall_mem_cons] at hes
    exact ih hes.2 (hstep e s t hes.1 hs hx) hr

/-- R193, over a run: without a CONSTRUCT the lifetime goes on. -/
theorem runEvents_sameLifetime {es : List Event} (hes : ∀ e ∈ es, isConstruct e = false) {rs : List Response}
    (h : runEvents es s = .next (u, rs)) : s.SameLifetime u :=
  runEvents_keeps (P := s.SameLifetime) (Q := (isConstruct · = false))
    (fun _ _ _ he hs hx => hs.trans (exec_sameLifetime (decode_ne_construct he _) hx)) hes (.refl s) h

/-- A run that begins with a CONSTRUCT and has no other ends live, with the configuration that CONSTRUCT presented (R90)
and the scale factor of that configuration (R93). -/
theorem runEvents_construct_lifetime {e : Event} {es : List Event} {rs : List Response}
    (he : isConstruct e = true) (hes : ∀ d ∈ es, isConstruct d = false)
    (h : runEvents (e :: es) s = .next (u, rs)) :
    ∃ hwf : e.cfg.wellFormed = true,
      u.live = true ∧ u.cfg = configurationOf e.cfg hwf ∧ u.scale = scaleOf u.cfg := by
  obtain ⟨t, rs', hx, hr, -⟩ := runEvents_cons_next.1 h
  rw [decode_of_isConstruct he] at hx
  obtain ⟨hwf, rfl⟩ := execConstruct_next.1 hx
  obtain ⟨hlive, hcfg, hscale⟩ := runEvents_sameLifetime hes hr
  exact ⟨hwf, hlive, hcfg, hscale.trans (congrArg scaleOf hcfg.symm)⟩

/-! ### The source's example (R10) -/

theorem scaleOf_of_360_24 {g : Configuration} (ha : g.maxAngle = 360) (hd : g.detents = 24) :
    scaleOf g = Config.num.num15 := by
  rw [scaleOf, ha, hd, Config.num.scale_example]

theorem State.degrees_of_three (hp : s.position = 3) (hs : s.scale = Config.num.num15) :
    s.degrees = Config.num.num45 := by
  rw [State.degrees, hp, hs, Config.num.degrees_example]

/-- Settles O36: the lifetime keeps the scale factor of its CONSTRUCT, and the two laws of R10 give 15.0 and 45.0. -/
theorem threeDetentsAreFortyFiveDegrees : Obligations.ThreeDetentsAreFortyFiveDegrees := by
  intro e es s t rs he hd ha hes h hp
  obtain ⟨hwf, hlive, hcfg, hscale⟩ := runEvents_construct_lifetime he hes h
  have h15 : t.scale = Config.num.num15 := by
    rw [hscale, hcfg]; exact scaleOf_of_360_24 ha hd
  refine ⟨h15, _, execGetposDeg_next.2 ⟨hlive, rfl⟩, ?_⟩
  exact congrArg Val.num (State.degrees_of_three hp h15)

end Sys2Proof.Machine
end

section
/-! SUPPORT. The finite realisation beside the machine (spec/00_scope.md R11, 60_exceptions.md R167). -/

namespace Sys2Proof.Machine

variable {w : Widths} {s t : State}

/-! ### One step of the finite realisation -/

theorem stepWithin_of_fits (h : step s = .next t) (hf : t.fits w = true) : stepWithin w s = .next t := by
  simp [stepWithin, h, hf]

theorem stepWithin_of_not_fits (h : step s = .next t) (hf : t.fits w = false) :
    stepWithin w s = .refused .beyondWidth := by
  simp [stepWithin, h, hf]

theorem stepWithin_of_refused {r : Refusal} (h : step s = .refused r) : stepWithin w s = .refused r := by
  simp [stepWithin, h]

/-! ### Runs of a machine -/

theorem core_run_succ_of_next {M : Host.Core} {x y : M.State} (h : M.step x = .next y) (k : Nat) :
    M.run (k + 1) x = M.run k y := by
  rw [Host.Core.run, h]

theorem core_run_succ_of_refused {M : Host.Core} {x : M.State} {r : M.Refusal} (h : M.step x = .refused r) (k : Nat) :
    M.run (k + 1) x = .refused r := by
  rw [Host.Core.run, h]

/-- R11: while every state the machine reaches is in range, the finite realisation makes the same run. -/
theorem finiteCore_run_eq (k : Nat) (s : State)
    (hfits : ∀ j t, j ≤ k → Host.Core.run Sys2Proof.core j s = .next t → State.fits t w = true) :
    Host.Core.run (finiteCore w) k s = Host.Core.run Sys2Proof.core k s := by
  induction k generalizing s with
  | zero => rfl
  | succ k ih =>
    cases h : step s with
    | next t =>
      have hrun (j : Nat) : Host.Core.run Sys2Proof.core (j + 1) s = Host.Core.run Sys2Proof.core j t :=
        core_run_succ_of_next (M := Sys2Proof.core) h j
      have ht : t.fits w = true := hfits 1 t (by omega) (hrun 0)
      rw [hrun, core_run_succ_of_next (M := finiteCore w) (stepWithin_of_fits h ht)]
      exact ih t fun j u hj hu => hfits (j + 1) u (by omega) ((hrun j).trans hu)
    | fault r => cases r
    | refused r =>
      exact (core_run_succ_of_refused (M := finiteCore w) (stepWithin_of_refused h) k).trans
        (core_run_succ_of_refused (M := Sys2Proof.core) h k).symm

/-! ### The two's complement registers -/

/-- An integer that fits `n` bits is what its two's complement word of `n` bits reads as. -/
theorem toInt_ofInt_of_fitsSigned {n : Nat} {z : Int} (hn : 0 < n) (h : fitsSigned (some n) z = true) :
    (BitVec.ofInt n z).toInt = z := by
  obtain ⟨hlo, hhi⟩ : -(2 ^ (n - 1) : Int) ≤ z ∧ z ≤ 2 ^ (n - 1) - 1 := of_decide_eq_true h
  exact BitVec.toInt_ofInt_eq_self hn hlo (by omega)

theorem State.fits_signed (h : s.fits w = true) :
    fitsSigned w.acc s.acc = true ∧ fitsSigned w.pos s.position = true := by
  simp only [State.fits, Bool.and_eq_true] at h
  obtain ⟨⟨⟨⟨hacc, hpos⟩, -⟩, -⟩, -⟩ := h
  exact ⟨hacc, hpos⟩

/-- Settles O49: by induction on the number of steps, which agree one by one; a register in range holds its integer;
and the next state is all a step looks at. -/
theorem finiteRealisationAgreesInRange : Obligations.FiniteRealisationAgreesInRange := by
  refine ⟨fun w => finiteCore_run_eq, fun w n m s hacc hpos hn hm hf => ?_, fun w s t => stepWithin_of_not_fits⟩
  obtain ⟨ha, hp⟩ := State.fits_signed hf
  exact ⟨toInt_ofInt_of_fitsSigned hn (hacc ▸ ha), toInt_ofInt_of_fitsSigned hm (hpos ▸ hp)⟩

end Sys2Proof.Machine
end

section
/-! SUPPORT. What each operation writes and what it leaves (spec/10_state.md R37, 42_poll_edge.md R139), and what so
stays over a lifetime: the configuration and the scale factor (R27), and under CYCLE4 the reference (R30). -/

namespace Sys2Proof.Machine

variable {s t : State} {a b : Level} {db : GateCode}

/-! ### Weights -/

theorem Dir.add_dval_cases (d : Dir) (n : Int) : n + d.dval = n ∨ n + d.dval = n + 1 ∨ n + d.dval = n - 1 := by
  cases d <;> simp [Dir.dval, sub_eq_add_neg]

theorem add_edgeDir_dval_cases (a b : Level) (n : Int) :
    n + (edgeDir a b).dval = n + 1 ∨ n + (edgeDir a b).dval = n - 1 := by
  unfold edgeDir; split_ifs <;> simp [Dir.dval, sub_eq_add_neg]

/-! ### POLL.C4 -/

theorem execPollC4_eq_firstPoll (hv : s.dfltValid = false) (hx : execPollC4 a b s = .next t) :
    t = s.firstPoll a b := by
  simpa [hv] using (execPollC4_next.1 hx).2.2

theorem execPollC4_eq_decodePoll (hv : s.dfltValid = true) (hx : execPollC4 a b s = .next t) :
    t = s.decodePoll a b := by
  simpa [hv] using (execPollC4_next.1 hx).2.2

/-- R37: the elements no POLL.C4 writes. -/
theorem execPollC4_frame (hx : execPollC4 a b s = .next t) :
    t = { s with aS := a, bS := b, dfltValid := true, ref := t.ref, curStep := t.curStep,
                 prevStep := t.prevStep, acc := t.acc, cycleFinished := t.cycleFinished,
                 position := t.position, resp := t.resp, calls := t.calls } := by
  cases hv : s.dfltValid with
  | false => rw [execPollC4_eq_firstPoll hv hx]; rfl
  | true =>
    rw [execPollC4_eq_decodePoll hv hx]
    rcases s.decodePoll_cases a b with ⟨-, -, h⟩ | ⟨-, -, h⟩ | ⟨-, h⟩ <;> simp [h, hv]

/-- R104 to R110: a decoding poll leaves the reference; off step 0 it moves no position, and writes one of the
accumulator and the flag at most. -/
theorem State.decodePoll_writes (s : State) (a b : Level) :
    (s.decodePoll a b).ref = s.ref ∧
    (stepOf s.ref a b ≠ .s0 → (s.decodePoll a b).position = s.position ∧
      (s.cycleFinished = true → (s.decodePoll a b).acc = s.acc) ∧
      (s.cycleFinished = false → (s.decodePoll a b).cycleFinished = s.cycleFinished)) ∧
    ((s.decodePoll a b).position = s.position ∨ (s.decodePoll a b).position = s.position + 1 ∨
      (s.decodePoll a b).position = s.position - 1) := by
  rcases s.decodePoll_cases a b with ⟨hf, -, h⟩ | ⟨hf, -, h⟩ | ⟨hc, h⟩ <;> rw [h]
  · exact ⟨rfl, fun _ => ⟨rfl, fun _ => rfl, fun hf' => by simp [hf] at hf'⟩, .inl rfl⟩
  · exact ⟨rfl, fun _ => ⟨rfl, fun hf' => by simp [hf] at hf', fun _ => rfl⟩, .inl rfl⟩
  · exact ⟨rfl, fun hc' => absurd hc hc', Dir.add_dval_cases _ _⟩

/-! ### POLL.EDGE -/

/-- R139: the elements no POLL.EDGE writes, the cycle state among them. -/
theorem execPollEdge_frame (hx : execPollEdge a b db s = .next t) :
    t = { s with aS := a, bS := b, dfltValid := true, ref := t.ref, settling := t.settling,
                 position := t.position, resp := t.resp, calls := t.calls } := by
  obtain ⟨-, -, rfl⟩ := execPollEdge_next.1 hx
  split_ifs with hv
  · simp [State.settledPoll_eq, hv]
  · simp [State.waitingPoll_eq, hv]
  · simp [State.restingPoll_eq, hv]
  · rfl

theorem execPollEdge_eq_firstEdgePoll (hv : s.dfltValid = false) (hx : execPollEdge a b db s = .next t) :
    t = s.firstEdgePoll a b := by
  simpa [hv] using (execPollEdge_next.1 hx).2.2

/-- R134 to R138: once the default level is recorded, the reference and the position are written by a poll that calls
the gate and sees `Finished`, and by no other. -/
theorem execPollEdge_writes (hv : s.dfltValid = true) (hx : execPollEdge a b db s = .next t) :
    (¬ (t.resp.gateReq = true ∧ db = .finished) → t.ref = s.ref ∧ t.position = s.position) ∧
    (t.resp.gateReq = true ∧ db = .finished → t.ref = b ∧
      (t.position = s.position + 1 ∨ t.position = s.position - 1)) := by
  obtain ⟨-, -, rfl⟩ := execPollEdge_next.1 hx
  rw [if_pos hv, ← gateFinished_iff]
  split_ifs with hset hfin
  · exact ⟨fun hn => absurd ⟨rfl, hfin⟩ hn, fun _ => ⟨rfl, add_edgeDir_dval_cases _ _ _⟩⟩
  · exact ⟨fun _ => ⟨rfl, rfl⟩, fun hy => absurd hy.2 hfin⟩
  · exact ⟨fun _ => ⟨rfl, rfl⟩, fun hy => by simp [State.restingPoll, pollResponse] at hy⟩

/-- Settles O40: one frame per operation, read off what it can do. -/
theorem everyOperationWritesOnlyItsElements : Obligations.EveryOperationWritesOnlyItsElements := by
  intro i s t hx
  cases i with
  | construct c => obtain ⟨-, rfl⟩ := execConstruct_next.1 hx; rfl
  | nop => obtain ⟨-, rfl⟩ := execNop_next.1 hx; rfl
  | getposDet => obtain ⟨-, rfl⟩ := execGetposDet_next.1 hx; rfl
  | getposDeg => obtain ⟨-, rfl⟩ := execGetposDeg_next.1 hx; rfl
  | pollC4 a b =>
    refine ⟨execPollC4_frame hx, fun hv => ?_, fun hv => ?_⟩
    · rw [execPollC4_eq_firstPoll hv hx]
      exact ⟨rfl, rfl, rfl, rfl, rfl, rfl⟩
    · rw [execPollC4_eq_decodePoll hv hx]
      exact s.decodePoll_writes a b
  | pollEdge a b db =>
    refine ⟨execPollEdge_frame hx, fun hv => ?_, fun hv => execPollEdge_writes hv hx⟩
    rw [execPollEdge_eq_firstEdgePoll hv hx]
    exact ⟨rfl, rfl, rfl⟩

/-! ### What stays over a lifetime -/

/-- Settles O41: a lifetime keeps both, over one operation and over a run. -/
theorem configurationIsFixedForALifetime : Obligations.ConfigurationIsFixedForALifetime := by
  refine ⟨fun i s t hi hx => ?_, fun es s t rs hes hr => ?_⟩
  · exact ⟨(exec_sameLifetime hi hx).cfg, (exec_sameLifetime hi hx).scale⟩
  · exact ⟨(runEvents_sameLifetime hes hr).cfg, (runEvents_sameLifetime hes hr).scale⟩

/-- R30, R192: under CYCLE4 no operation but CONSTRUCT writes a reference that is recorded. -/
theorem exec_keeps_ref {i : Instr} (hi : ∀ c, i ≠ .construct c) (hσ : s.cfg.strategy = .cycle4)
    (hv : s.dfltValid = true) (hx : exec i s = .next t) : t.ref = s.ref ∧ t.dfltValid = true := by
  cases i with
  | construct c => exact absurd rfl (hi c)
  | nop => obtain ⟨-, rfl⟩ := execNop_next.1 hx; exact ⟨rfl, hv⟩
  | getposDet => obtain ⟨-, rfl⟩ := execGetposDet_next.1 hx; exact ⟨rfl, hv⟩
  | getposDeg => obtain ⟨-, rfl⟩ := execGetposDeg_next.1 hx; exact ⟨rfl, hv⟩
  | pollC4 a b =>
    refine ⟨?_, congrArg State.dfltValid (execPollC4_frame hx)⟩
    rw [execPollC4_eq_decodePoll hv hx]
    exact (s.decodePoll_writes a b).1
  | pollEdge a b db =>
    obtain ⟨-, hσ', -⟩ := execPollEdge_next.1 hx
    simp [hσ] at hσ'

/-- The state decodes against the level `r` under CYCLE4. -/
structure State.Cycle4Ref (r : Level) (s : State) : Prop where
  strategy : s.cfg.strategy = .cycle4
  dfltValid : s.dfltValid = true
  ref : s.ref = r

theorem State.Cycle4Ref.of_exec {r : Level} {i : Instr} (h : s.Cycle4Ref r) (hi : ∀ c, i ≠ .construct c)
    (hx : exec i s = .next t) : t.Cycle4Ref r := by
  obtain ⟨href, hv⟩ := exec_keeps_ref hi h.strategy h.dfltValid hx
  exact ⟨(exec_sameLifetime hi hx).cfg ▸ h.strategy, hv, href.trans h.ref⟩

/-- The inverse reference turns both off-default bits over (R103). -/
theorem offDefault_inv (l r : Level) : offDefault l r.inv = !offDefault l r := by
  cases l <;> cases r <;> rfl

/-- Both bits turned over is the opposite step of the ring (R104). -/
theorem classify_not_code (x y : Bool) : (classify (!x) (!y)).code = (classify x y).code + 2#2 := by
  cases x <;> cases y <;> rfl

/-- Settles O26: every event that is no CONSTRUCT keeps the recorded reference, and turning the reference over turns
both off-default bits over. -/
theorem referenceIsFixedUnderCycle4 : Obligations.ReferenceIsFixedUnderCycle4 := by
  refine ⟨fun es s t rs hσ hv hes hr => ?_, fun r a b => ?_⟩
  · have ht : t.Cycle4Ref s.ref :=
      runEvents_keeps (P := State.Cycle4Ref s.ref) (Q := (isConstruct · = false))
        (fun _ _ _ he h hx => h.of_exec (decode_ne_construct he _) hx) hes ⟨hσ, hv, rfl⟩ hr
    exact ⟨ht.ref, ht.dfltValid⟩
  · rw [stepOf, offDefault_inv, offDefault_inv, classify_not_code, ← stepOf]

end Sys2Proof.Machine
end

section
/-! SUPPORT. The invariants of the reachable states (spec/10_state.md R40): a fresh lifetime meets them, every operation
keeps them, and what they say of a decoding poll. -/

namespace Sys2Proof.Machine

variable {s t : State}

/-! ### A fresh lifetime -/

/-- The scale factor is the configuration's quotient (R93) and the mutable elements hold their reset values (R90). -/
structure State.Fresh (s : State) : Prop where
  scale : s.scale = scaleOf s.cfg
  dfltValid : s.dfltValid = false
  curStep : s.curStep = .s0
  prevStep : s.prevStep = .s0
  acc : s.acc = 0
  cycleFinished : s.cycleFinished = true
  settling : s.settling = false
  position : s.position = 0

theorem State.construct_fresh (s : State) (g : Configuration) : (s.construct g).Fresh :=
  ⟨rfl, rfl, rfl, rfl, rfl, rfl, rfl, rfl⟩

theorem State.reset_fresh : State.reset.Fresh := ⟨rfl, rfl, rfl, rfl, rfl, rfl, rfl, rfl⟩

theorem State.beforeConstruct_fresh : State.beforeConstruct.Fresh := ⟨rfl, rfl, rfl, rfl, rfl, rfl, rfl, rfl⟩

theorem State.Fresh.inv (h : s.Fresh) : s.inv := by
  refine fun _ => ⟨⟨s.cfg.detents_pos, h.scale⟩, fun _ => ?_, fun _ => ?_⟩
  · exact ⟨by simp [h.cycleFinished, h.prevStep], fun _ => h.acc,
      fun _ => ⟨h.position, h.acc, h.prevStep, h.cycleFinished⟩, h.settling⟩
  · exact ⟨h.curStep, h.prevStep, h.acc, h.cycleFinished, fun _ => ⟨h.settling, h.position⟩⟩

/-- Settles O43: both states are fresh. -/
theorem resetMeetsTheInvariants : Obligations.ResetMeetsTheInvariants :=
  ⟨State.reset_fresh.inv, State.beforeConstruct_fresh.inv⟩

/-! ### The invariant under one strategy -/

theorem State.inv_iff_of_cycle4 (hσ : s.cfg.strategy = .cycle4) :
    s.inv ↔ (s.live = true → s.configInv ∧ s.cycleInv) := by
  simp [State.inv, hσ]

theorem State.inv_iff_of_edge (hσ : s.cfg.strategy = .edge) :
    s.inv ↔ (s.live = true → s.configInv ∧ s.edgeInv) := by
  simp [State.inv, hσ]

theorem State.inv.cycleInv (h : s.inv) (hs : s.decodesBy .cycle4) : s.cycleInv :=
  ((State.inv_iff_of_cycle4 hs.2).1 h hs.1).2

theorem State.inv.edgeInv (h : s.inv) (hs : s.decodesBy .edge) : s.edgeInv :=
  ((State.inv_iff_of_edge hs.2).1 h hs.1).2

/-- R26, R27: inside a lifetime the clause on the configuration carries over. -/
theorem State.SameLifetime.configInv (hl : s.SameLifetime t) (h : s.configInv) : t.configInv := by
  obtain ⟨-, hscale⟩ := h
  exact ⟨t.cfg.detents_pos, by rw [hl.scale, hl.cfg, hscale]⟩

/-! ### Every operation keeps it -/

/-- The invariant does not read the output side. -/
theorem State.inv.answer (h : s.inv) (r : Response) (cs : List Call) : (s.answer r cs).inv := h

theorem State.firstPoll_cycleInv (h : s.cycleInv) (a b : Level) : (s.firstPoll a b).cycleInv := by
  obtain ⟨hflag, hacc, -, hset⟩ := h
  exact ⟨hflag, hacc, fun hv => by simp [State.firstPoll] at hv, hset⟩

/-- A decoding poll meets R40 (i) and (ii), whatever step stood before: a cycle begins and goes on at a non-zero step with
the flag clear, and finishes at step 0 with the flag set and the accumulator zero. -/
theorem State.decodePoll_cycleInv (h : s.cycleInv) (hv : s.dfltValid = true) (a b : Level) :
    (s.decodePoll a b).cycleInv := by
  obtain ⟨-, -, -, hset⟩ := h
  rcases s.decodePoll_cases a b with ⟨hf, hc, ht⟩ | ⟨hf, hc, ht⟩ | ⟨hc, ht⟩ <;> rw [ht]
  · simp [State.cycleInv, hc, hv, hset]
  · simp [State.cycleInv, hc, hf, hv, hset]
  · simp [State.cycleInv, hv, hset]

/-- R139: a POLL.EDGE writes none of the cycle state, and leaves the default level recorded. -/
theorem execPollEdge_edgeInv {a b : Level} {db : GateCode} (h : s.edgeInv) (hx : execPollEdge a b db s = .next t) :
    t.edgeInv := by
  obtain ⟨hcur, hprev, hacc, hflag, -⟩ := h
  rw [execPollEdge_frame hx]
  exact ⟨hcur, hprev, hacc, hflag, fun hv => by simp at hv⟩

theorem exec_keeps_inv {i : Instr} (h : s.inv) (hx : exec i s = .next t) : t.inv := by
  cases i with
  | construct c => obtain ⟨-, rfl⟩ := execConstruct_next.1 hx; exact (s.construct_fresh _).inv
  | nop => obtain ⟨-, rfl⟩ := execNop_next.1 hx; exact h.answer _ _
  | getposDet => obtain ⟨-, rfl⟩ := execGetposDet_next.1 hx; exact h.answer _ _
  | getposDeg => obtain ⟨-, rfl⟩ := execGetposDeg_next.1 hx; exact h.answer _ _
  | pollC4 a b =>
    have hl : s.SameLifetime t := exec_sameLifetime (by simp) hx
    obtain ⟨hlive, hσ, rfl⟩ := execPollC4_next.1 hx
    have hcyc : s.cycleInv := h.cycleInv ⟨hlive, hσ⟩
    refine (State.inv_iff_of_cycle4 (hl.cfg ▸ hσ)).2 fun _ => ⟨hl.configInv (h hlive).1, ?_⟩
    split_ifs with hv
    · exact State.decodePoll_cycleInv hcyc hv a b
    · exact State.firstPoll_cycleInv hcyc a b
  | pollEdge a b db =>
    have hl : s.SameLifetime t := exec_sameLifetime (by simp) hx
    obtain ⟨hlive, hσ, -⟩ := execPollEdge_next.1 hx
    have hedge : t.edgeInv := execPollEdge_edgeInv (h.edgeInv ⟨hlive, hσ⟩) hx
    exact (State.inv_iff_of_edge (hl.cfg ▸ hσ)).2 fun _ => ⟨hl.configInv (h hlive).1, hedge⟩

/-- Settles O42: a step is idle or executes one operation on the state without the event, which the invariant does not
read. -/
theorem stepKeepsTheInvariants : Obligations.StepKeepsTheInvariants := by
  intro s t h hstep
  rcases step_cases hstep with ⟨-, rfl⟩ | ⟨e, rest, -, hx⟩
  · exact h
  · exact exec_keeps_inv (s := { s with inbox := rest }) h hx

/-- Settles O44: the flag is clear exactly off step 0 (R40 (i)), and while it is set the accumulator is zero
(R40 (ii)), so that branch (c) at rest adds nothing. -/
theorem rowZeroOfDeltaIsNotExercised : Obligations.RowZeroOfDeltaIsNotExercised := by
  intro s a b h hs
  obtain ⟨hflag, hacc, -, -⟩ := h.cycleInv hs
  refine ⟨fun hb hp => ?_, fun hv hf hc => ?_⟩
  · have hclear : s.cycleFinished = false := (branchOf_eq_accumulates.1 hb).1
    simp [hflag.2 hp] at hclear
  · refine ⟨s.decodePoll a b, execPollC4_next.2 ⟨hs.1, hs.2, by rw [if_pos hv]⟩, ?_⟩
    rcases s.decodePoll_cases a b with ⟨-, hn, -⟩ | ⟨-, hn, -⟩ | ⟨-, ht⟩
    · exact absurd hc hn
    · exact absurd hc hn
    · simp [ht, State.c4View, hf, hflag.1 hf, hacc hf, dirOfAcc_zero, Dir.dval, pollResponse]

end Sys2Proof.Machine
end

section
/-! SUPPORT. What no response can show (spec/10_state.md R21, R22, R28, R31, R41): two states that agree on the elements
that responses are made of run in lockstep and answer alike. -/

namespace Sys2Proof.Machine

/-! ### Lockstep -/

/-- Two outcomes show a host the same: next states in relation `R` with one response, or the same refusal. -/
inductive Alike (R : State → State → Prop) :
    Host.Outcome State Fault Refusal → Host.Outcome State Fault Refusal → Prop where
  | next {s t : State} (h : R s t) (hresp : s.resp = t.resp) : Alike R (.next s) (.next t)
  | refused (r : Refusal) : Alike R (.refused r) (.refused r)

section Lockstep

variable {R : State → State → Prop} {s t s' t' : State}

theorem State.ifLive_alike (hlive : s.live = t.live) (h : R s' t') (hresp : s'.resp = t'.resp) :
    Alike R (s.ifLive s') (t.ifLive t') := by
  unfold State.ifLive
  rw [hlive]
  split_ifs
  · exact .next h hresp
  · exact .refused _

theorem State.ifStrategy_alike {σ : Strategy} (hlive : s.live = t.live) (hσ : s.cfg.strategy = t.cfg.strategy)
    (h : R s' t') (hresp : s'.resp = t'.resp) : Alike R (s.ifStrategy σ s') (t.ifStrategy σ t') := by
  unfold State.ifStrategy
  rw [hlive, hσ]
  split_ifs
  · exact .next h hresp
  · exact .refused _
  · exact .refused _

/-- What a run shows after an event that completes: its response in front of what the rest shows. -/
theorem shown_runEvents_cons_of_next {e : Event} {es : List Event} (hx : exec (decode s.cfg.strategy e) s = .next t) :
    shown (runEvents (e :: es) s) = (shown (runEvents es t)).map (Option.map (t.resp :: ·)) id := by
  rw [runEvents, step_present, hx]
  cases hr : runEvents es t with
  | next p => simp [shown, hr]
  | fault r => cases r
  | refused r => simp [shown, hr]

theorem shown_runEvents_cons_of_refused {e : Event} {es : List Event} {r : Refusal}
    (hx : exec (decode s.cfg.strategy e) s = .refused r) : shown (runEvents (e :: es) s) = (none, some r) := by
  rw [runEvents, step_present, hx]
  rfl

/-- The induction over a stream of events: states that every event keeps in lockstep answer every stream alike. -/
theorem shown_runEvents_eq_of_alike
    (hR : ∀ (e : Event) (s t : State), R s t →
      Alike R (exec (decode s.cfg.strategy e) s) (exec (decode t.cfg.strategy e) t))
    (es : List Event) (h : R s t) : shown (runEvents es s) = shown (runEvents es t) := by
  induction es generalizing s t with
  | nil => rfl
  | cons e es ih =>
    have hx := hR e s t h
    generalize hs : exec (decode s.cfg.strategy e) s = o, ht : exec (decode t.cfg.strategy e) t = o' at hx
    cases hx with
    | next h' hresp =>
      rw [shown_runEvents_cons_of_next hs, shown_runEvents_cons_of_next ht, ih h', hresp]
    | refused r => rw [shown_runEvents_cons_of_refused hs, shown_runEvents_cons_of_refused ht]

end Lockstep

/-! ### The elements that responses are made of -/

/-- Two states agree on all that any response is made of: not on the pins and the debounce window of the configuration,
nor on the sample pair, `cur_step` and the model's own fields; and on `ref` once a default level is recorded. -/
structure State.SameForAnswers (s t : State) : Prop where
  live : s.live = t.live
  strategy : s.cfg.strategy = t.cfg.strategy
  scale : s.scale = t.scale
  dfltValid : s.dfltValid = t.dfltValid
  ref : s.dfltValid = true → s.ref = t.ref
  prevStep : s.prevStep = t.prevStep
  acc : s.acc = t.acc
  cycleFinished : s.cycleFinished = t.cycleFinished
  settling : s.settling = t.settling
  position : s.position = t.position

variable {s t : State}

/-- R94: whatever stood before, a CONSTRUCT writes all they agree on, and no default level is recorded. -/
theorem State.construct_sameForAnswers (s t : State) (g : Configuration) :
    (s.construct g).SameForAnswers (t.construct g) :=
  ⟨rfl, rfl, rfl, rfl, fun hv => by simp at hv, rfl, rfl, rfl, rfl, rfl⟩

theorem State.SameForAnswers.answer (h : s.SameForAnswers t) (r r' : Response) (cs cs' : List Call) :
    (s.answer r cs).SameForAnswers (t.answer r' cs') := { h with }

/-- The branch of a decoding poll and its result are chosen by elements on which the states agree. -/
theorem State.SameForAnswers.cycleStep (h : s.SameForAnswers t) (c : StepCode) :
    (s.cycleStep c).1.SameForAnswers (t.cycleStep c).1 ∧ (s.cycleStep c).2 = (t.cycleStep c).2 := by
  unfold State.cycleStep
  rw [h.cycleFinished, h.prevStep, h.acc]
  cases branchOf t.cycleFinished c with
  | begins => exact ⟨{ h with cycleFinished := rfl }, rfl⟩
  | accumulates => exact ⟨{ h with acc := congrArg (· + _) h.acc }, rfl⟩
  | finishes =>
    exact ⟨{ h with acc := rfl, cycleFinished := rfl, position := congrArg (· + _) h.position }, rfl⟩

theorem State.SameForAnswers.decodePoll (h : s.SameForAnswers t) (hv : s.dfltValid = true) (a b : Level) :
    (s.decodePoll a b).SameForAnswers (t.decodePoll a b) ∧ (s.decodePoll a b).resp = (t.decodePoll a b).resp := by
  unfold State.decodePoll
  rw [h.ref hv]
  have hsampled : ((s.sample a b).setCurStep (stepOf t.ref a b)).SameForAnswers
      ((t.sample a b).setCurStep (stepOf t.ref a b)) := { h with }
  obtain ⟨hstep, hdir⟩ := hsampled.cycleStep (stepOf t.ref a b)
  exact ⟨{ hstep with prevStep := rfl }, congrArg (pollResponse · false) hdir⟩

/-- The first poll of either strategy records a reference on which the states then agree. -/
theorem State.SameForAnswers.firstPoll (h : s.SameForAnswers t) (a b : Level) :
    (s.firstPoll a b).SameForAnswers (t.firstPoll a b) :=
  { h with dfltValid := rfl, ref := fun _ => rfl }

/-- The same operation on two such states: CONSTRUCT writes all they agree on, a read-out reads the position and the
scale factor, and a POLL chooses its branch by what they agree on. -/
theorem State.SameForAnswers.exec_alike (h : s.SameForAnswers t) (i : Instr) :
    Alike State.SameForAnswers (exec i s) (exec i t) := by
  cases i with
  | construct c =>
    simp only [exec, execConstruct]
    split_ifs
    · exact .next (State.construct_sameForAnswers s t _) rfl
    · exact .refused _
  | nop => exact State.ifLive_alike h.live (h.answer _ _ _ _) rfl
  | getposDet =>
    exact State.ifLive_alike h.live (h.answer _ _ _ _) (congrArg (fun z => getposResponse (.int z)) h.position)
  | getposDeg =>
    have hdeg : s.degrees = t.degrees := by rw [State.degrees, State.degrees, h.position, h.scale]
    exact State.ifLive_alike h.live (h.answer _ _ _ _) (congrArg (fun x => getposResponse (.num x)) hdeg)
  | pollC4 a b =>
    simp only [exec, execPollC4, ← h.dfltValid]
    split_ifs with hv
    · exact State.ifStrategy_alike h.live h.strategy (h.decodePoll hv a b).1 (h.decodePoll hv a b).2
    · exact State.ifStrategy_alike h.live h.strategy (h.firstPoll a b) rfl
  | pollEdge a b db =>
    simp only [exec, execPollEdge, ← h.dfltValid]
    by_cases hv : s.dfltValid = true
    · rw [if_pos hv, if_pos hv, ← h.ref hv, ← h.settling]
      split_ifs
      · exact State.ifStrategy_alike h.live h.strategy
          { h with ref := fun _ => rfl, settling := rfl, position := congrArg (· + _) h.position } rfl
      · exact State.ifStrategy_alike h.live h.strategy { h with settling := rfl } rfl
      · exact State.ifStrategy_alike h.live h.strategy { h with settling := rfl } rfl
    · rw [if_neg hv, if_neg hv]
      exact State.ifStrategy_alike h.live h.strategy (h.firstPoll a b) rfl

theorem State.SameForAnswers.shown_eq (h : s.SameForAnswers t) (es : List Event) :
    shown (runEvents es s) = shown (runEvents es t) :=
  shown_runEvents_eq_of_alike (fun _ _ _ h => h.strategy ▸ h.exec_alike _) es h

/-- Settles O47: states that differ only in droppable elements agree on all that responses are made of. -/
theorem droppableStateIsNeverSeen : Obligations.DroppableStateIsNeverSeen := by
  intro s t es ⟨ht, href⟩
  have h : s.SameForAnswers t := by
    rw [ht]
    exact ⟨rfl, rfl, rfl, rfl, fun hv => (href hv).symm, rfl, rfl, rfl, rfl, rfl⟩
  exact h.shown_eq es

/-- Settles O48: no response is made of the pin identifiers or the window; the scale factor is held beside the
configuration. -/
theorem pinsAndWindowChangeNoAnswer : Obligations.PinsAndWindowChangeNoAnswer := by
  intro s es pinA pinB window
  refine State.SameForAnswers.shown_eq ?_ es
  exact ⟨rfl, rfl, rfl, rfl, fun _ => rfl, rfl, rfl, rfl, rfl, rfl⟩

end Sys2Proof.Machine
end

section
/-! SUPPORT. The codes, the five fields of the stimulus word, and the decoder once for each value of the fields it reads
(spec/30_encoding.md R66, R67, R71, R73). -/

namespace Sys2Proof

/-! ### Codes (R8, R71) -/

@[simp] theorem Level.ofCode_code (l : Level) : Level.ofCode l.code = l := by
  cases l <;> rfl

@[simp] theorem GateCode.ofCode_code (db : GateCode) : GateCode.ofCode db.code = db := by
  cases db <;> rfl

theorem Dir.code_eq_ofInt_dval (d : Dir) : d.code = BitVec.ofInt 2 d.dval := by
  cases d <;> rfl

theorem Dir.toInt_code (d : Dir) : d.code.toInt = d.dval := by
  cases d <;> rfl

theorem Dir.code_ne_two (d : Dir) : d.code ≠ 0b10#2 := by
  cases d <;> decide

/-! ### The fields of a word put together from fields (R66) -/

section
variable (rst : BitVec 1) (op db : BitVec 2) (b a : BitVec 1)

@[simp] theorem rstField_stimWord : rstField (stimWord rst op db b a) = rst := by
  simp only [rstField, stimWord, BitVec.extractLsb'_append_eq_ite]; simp

@[simp] theorem opField_stimWord : opField (stimWord rst op db b a) = op := by
  simp only [opField, stimWord, BitVec.extractLsb'_append_eq_ite]; simp

@[simp] theorem dbField_stimWord : dbField (stimWord rst op db b a) = db := by
  simp only [dbField, stimWord, BitVec.extractLsb'_append_eq_ite]; simp

@[simp] theorem bField_stimWord : bField (stimWord rst op db b a) = b := by
  simp only [bField, stimWord, BitVec.extractLsb'_append_eq_ite]; simp

@[simp] theorem aField_stimWord : aField (stimWord rst op db b a) = a := by
  simp only [aField, stimWord, BitVec.extractLsb'_append_eq_ite]; simp

end

theorem rstField_eq_one_iff (w : StimWord) : rstField w = 1#1 ↔ w.getLsbD 6 = true := by
  decide +revert

/-! ### The two masks of the opcode table (R67) -/

theorem and_rstMask_eq_iff (w : StimWord) : w &&& 0x40#7 = 0x40#7 ↔ rstField w = 1#1 := by
  decide +revert

theorem and_opMask_eq_iff (w : StimWord) (op : BitVec 2) :
    w &&& 0x70#7 = stimWord 0#1 op 0#2 0#1 0#1 ↔ rstField w = 0#1 ∧ opField w = op := by
  decide +revert

end Sys2Proof

namespace Sys2Proof.Machine

variable {σ : Strategy} {e : Event}

theorem isConstruct_iff : isConstruct e = true ↔ rstField e.stim = 1#1 := beq_iff_eq

theorem isConstruct_eq_false_iff : isConstruct e = false ↔ rstField e.stim = 0#1 := by
  have hbit : ∀ x : BitVec 1, x ≠ 1#1 ↔ x = 0#1 := by decide
  exact beq_eq_false_iff_ne.trans (hbit _)

/-! ### The decoder by `op`, with `rst` = 0 -/

theorem decode_eq_nop (h : isConstruct e = false) (hop : opField e.stim = 0b00#2) : decode σ e = .nop := by
  simp [decode, isConstruct_eq_false_iff.1 h, hop]

theorem decode_eq_pollC4 (h : isConstruct e = false) (hop : opField e.stim = 0b01#2) :
    decode .cycle4 e = .pollC4 (.ofCode (aField e.stim)) (.ofCode (bField e.stim)) := by
  simp [decode, isConstruct_eq_false_iff.1 h, hop]

theorem decode_eq_pollEdge (h : isConstruct e = false) (hop : opField e.stim = 0b01#2) :
    decode .edge e =
      .pollEdge (.ofCode (aField e.stim)) (.ofCode (bField e.stim)) (.ofCode (dbField e.stim)) := by
  simp [decode, isConstruct_eq_false_iff.1 h, hop]

theorem decode_eq_getposDet (h : isConstruct e = false) (hop : opField e.stim = 0b10#2) :
    decode σ e = .getposDet := by
  simp [decode, isConstruct_eq_false_iff.1 h, hop]

theorem decode_eq_getposDeg (h : isConstruct e = false) (hop : opField e.stim = 0b11#2) :
    decode σ e = .getposDeg := by
  simp [decode, isConstruct_eq_false_iff.1 h, hop]

end Sys2Proof.Machine
end

section
/-! SUPPORT. Decoding and encoding agree, and the rows of the opcode table split the words as the decoder does
(spec/30_encoding.md R66, R67, R72). -/

namespace Sys2Proof.Machine

variable {σ : Strategy} {e : Event}

/-! ### The words written out field by field, as R78 writes them -/

section
variable (op db : BitVec 2) (b a : BitVec 1) (c : CtorInputs)

@[simp] theorem isConstruct_stimWord (rst : BitVec 1) :
    isConstruct ⟨stimWord rst op db b a, c⟩ = (rst == 1#1) := by
  simp [isConstruct]

theorem decode_construct_word : decode σ ⟨stimWord 1#1 op db b a, c⟩ = .construct c :=
  decode_of_isConstruct (by simp) σ

theorem decode_nop_word : decode σ ⟨stimWord 0#1 0b00#2 db b a, c⟩ = .nop :=
  decode_eq_nop (by simp) (by simp)

theorem decode_getposDet_word : decode σ ⟨stimWord 0#1 0b10#2 db b a, c⟩ = .getposDet :=
  decode_eq_getposDet (by simp) (by simp)

theorem decode_getposDeg_word : decode σ ⟨stimWord 0#1 0b11#2 db b a, c⟩ = .getposDeg :=
  decode_eq_getposDeg (by simp) (by simp)

end

theorem decode_pollC4_word (db : BitVec 2) (b a : Level) (c : CtorInputs) :
    decode .cycle4 ⟨stimWord 0#1 0b01#2 db b.code a.code, c⟩ = .pollC4 a b :=
  (decode_eq_pollC4 (by simp) (by simp)).trans (by simp)

theorem decode_pollEdge_word (db : GateCode) (b a : Level) (c : CtorInputs) :
    decode .edge ⟨stimWord 0#1 0b01#2 db.code b.code a.code, c⟩ = .pollEdge a b db :=
  (decode_eq_pollEdge (by simp) (by simp)).trans (by simp)

/-! ### Decode of encode -/

/-- Decoding what the encoder writes gives the operation back, under a strategy it belongs to (R67, R72). -/
theorem decode_encode {i : Instr} (h : i.under σ = true) : decode σ (encode i) = i := by
  cases i with
  | construct c => exact decode_construct_word ..
  | nop => exact decode_nop_word ..
  | pollC4 a b =>
    obtain rfl : σ = .cycle4 := beq_iff_eq.1 h
    exact decode_pollC4_word ..
  | pollEdge a b db =>
    obtain rfl : σ = .edge := beq_iff_eq.1 h
    exact decode_pollEdge_word ..
  | getposDet => exact decode_getposDet_word ..
  | getposDeg => exact decode_getposDeg_word ..

/-- Settles O3: what the decoder gives belongs to the strategy, so `decode_encode` holds of it; and an encoder that the
decoder undoes is injective. -/
theorem decodeEncodeAgree : Obligations.DecodeEncodeAgree := by
  refine ⟨fun σ i => decode_encode, fun σ e => ⟨decode_under σ e, decode_encode (decode_under σ e)⟩, ?_⟩
  intro σ i j hi hj hij
  calc i = decode σ (encode i) := (decode_encode hi).symm
    _ = decode σ (encode j) := by rw [hij]
    _ = j := decode_encode hj

/-! ### The rows of the opcode table -/

theorem OpRow.construct_selects_iff : OpRow.construct.selects σ e.stim = true ↔ isConstruct e = true := by
  simp [OpRow.selects, OpRow.construct, and_rstMask_eq_iff, isConstruct_iff]

/-- The rows below CONSTRUCT are told apart by `op`, and those of POLL by the strategy too. -/
theorem OpRow.selects_iff_of_opMask {r : OpRow} {op : BitVec 2} (hm : r.mask = 0x70#7)
    (hp : r.pattern = stimWord 0#1 op 0#2 0#1 0#1) :
    r.selects σ e.stim = true ↔
      isConstruct e = false ∧ opField e.stim = op ∧ r.strategy.all (· == σ) = true := by
  rw [OpRow.selects, hm, hp, Bool.and_eq_true, beq_iff_eq, and_opMask_eq_iff, isConstruct_eq_false_iff, and_assoc]

theorem OpRow.nop_selects_iff :
    OpRow.nop.selects σ e.stim = true ↔ isConstruct e = false ∧ opField e.stim = 0b00#2 := by
  rw [OpRow.selects_iff_of_opMask (op := 0b00#2) rfl rfl]
  simp [OpRow.nop]

theorem OpRow.pollC4_selects_iff :
    OpRow.pollC4.selects σ e.stim = true ↔
      isConstruct e = false ∧ opField e.stim = 0b01#2 ∧ σ = .cycle4 := by
  rw [OpRow.selects_iff_of_opMask (op := 0b01#2) rfl rfl]
  cases σ <;> simp [OpRow.pollC4]

theorem OpRow.pollEdge_selects_iff :
    OpRow.pollEdge.selects σ e.stim = true ↔
      isConstruct e = false ∧ opField e.stim = 0b01#2 ∧ σ = .edge := by
  rw [OpRow.selects_iff_of_opMask (op := 0b01#2) rfl rfl]
  cases σ <;> simp [OpRow.pollEdge]

theorem OpRow.getposDet_selects_iff :
    OpRow.getposDet.selects σ e.stim = true ↔ isConstruct e = false ∧ opField e.stim = 0b10#2 := by
  rw [OpRow.selects_iff_of_opMask (op := 0b10#2) rfl rfl]
  simp [OpRow.getposDet]

theorem OpRow.getposDeg_selects_iff :
    OpRow.getposDeg.selects σ e.stim = true ↔ isConstruct e = false ∧ opField e.stim = 0b11#2 := by
  rw [OpRow.selects_iff_of_opMask (op := 0b11#2) rfl rfl]
  simp [OpRow.getposDeg]

theorem Instr.row_mem_opTable (i : Instr) : i.row ∈ opTable := by
  cases i <;> simp [Instr.row, opTable]

/-- Covering: the row of the decoded operation is one the word selects. -/
theorem row_decode_selects (σ : Strategy) (e : Event) : (decode σ e).row.selects σ e.stim = true := by
  cases h : isConstruct e with
  | true => rw [decode_of_isConstruct h]; exact OpRow.construct_selects_iff.2 h
  | false =>
    rcases decode_cases h σ with ⟨hop, hd⟩ | ⟨hop, hσ, hd⟩ | ⟨hop, hσ, hd⟩ | ⟨hop, hd⟩ | ⟨hop, hd⟩ <;> rw [hd]
    · exact OpRow.nop_selects_iff.2 ⟨h, hop⟩
    · exact OpRow.pollC4_selects_iff.2 ⟨h, hop, hσ⟩
    · exact OpRow.pollEdge_selects_iff.2 ⟨h, hop, hσ⟩
    · exact OpRow.getposDet_selects_iff.2 ⟨h, hop⟩
    · exact OpRow.getposDeg_selects_iff.2 ⟨h, hop⟩

/-- Disjointness: a row the word selects is the one of the decoded operation. -/
theorem eq_row_decode_of_selects {r : OpRow} (hr : r ∈ opTable) (h : r.selects σ e.stim = true) :
    r = (decode σ e).row := by
  simp only [opTable, List.mem_cons, List.not_mem_nil, or_false] at hr
  rcases hr with rfl | rfl | rfl | rfl | rfl | rfl
  · rw [decode_of_isConstruct (OpRow.construct_selects_iff.1 h)]; rfl
  · obtain ⟨hc, hop⟩ := OpRow.nop_selects_iff.1 h
    rw [decode_eq_nop hc hop]; rfl
  · obtain ⟨hc, hop, rfl⟩ := OpRow.pollC4_selects_iff.1 h
    rw [decode_eq_pollC4 hc hop]; rfl
  · obtain ⟨hc, hop, rfl⟩ := OpRow.pollEdge_selects_iff.1 h
    rw [decode_eq_pollEdge hc hop]; rfl
  · obtain ⟨hc, hop⟩ := OpRow.getposDet_selects_iff.1 h
    rw [decode_eq_getposDet hc hop]; rfl
  · obtain ⟨hc, hop⟩ := OpRow.getposDeg_selects_iff.1 h
    rw [decode_eq_getposDeg hc hop]; rfl

/-- Settles O2: each row's mask and pattern say of `rst`, `op` and the strategy what the decoder tests. -/
theorem opcodeTableDisjointAndCovering : Obligations.OpcodeTableDisjointAndCovering :=
  fun σ e => ⟨Instr.row_mem_opTable _, row_decode_selects σ e, fun _ hr h => eq_row_decode_of_selects hr h⟩

end Sys2Proof.Machine
end

section
/-! SUPPORT. What an event's step is, which fields count, and the listed words: the worked encodings, the codes of `dir`
and the lines of the test bench (spec/30_encoding.md R65, R71 to R76, R78). -/

namespace Sys2Proof.Machine

/-- Settles O1: the two outcomes of taking an event. -/
theorem stepRunsTheDecodedOperation : Obligations.StepRunsTheDecodedOperation :=
  ⟨fun _ _ _ h => step_of_inbox_cons h, fun _ h => step_of_inbox_nil h⟩

/-- Settles O4: bit 6 is the field `rst`, which the decoder tests first. -/
theorem rstWinsOverOp : Obligations.RstWinsOverOp := by
  intro σ e s h
  have hc : isConstruct e = true := isConstruct_iff.2 ((rstField_eq_one_iff e.stim).2 h)
  exact ⟨decode_of_isConstruct hc σ, by rw [step_present, decode_of_isConstruct hc]⟩

/-! ### The fields that are read -/

section
variable {σ : Strategy} {e e' : Event}

/-- R72 (a): of an event that is no CONSTRUCT and no POLL, `op` alone is read. -/
theorem decode_congr_of_op_ne_poll (h : isConstruct e = false) (h' : isConstruct e' = false)
    (hop : opField e.stim = opField e'.stim) (hne : opField e.stim ≠ 0b01#2) : decode σ e = decode σ e' := by
  rcases decode_cases h σ with ⟨ho, hd⟩ | ⟨ho, -⟩ | ⟨ho, -⟩ | ⟨ho, hd⟩ | ⟨ho, hd⟩
  · rw [hd, decode_eq_nop h' (hop ▸ ho)]
  · exact absurd ho hne
  · exact absurd ho hne
  · rw [hd, decode_eq_getposDet h' (hop ▸ ho)]
  · rw [hd, decode_eq_getposDeg h' (hop ▸ ho)]

/-- R74: of an event that is no CONSTRUCT, `op`, `b`, `a` and under `EDGE` `db` are read at most. -/
theorem decode_congr (h : isConstruct e = false) (h' : isConstruct e' = false)
    (hop : opField e.stim = opField e'.stim) (ha : aField e.stim = aField e'.stim)
    (hb : bField e.stim = bField e'.stim) (hdb : σ = .edge → dbField e.stim = dbField e'.stim) :
    decode σ e = decode σ e' := by
  by_cases hp : opField e.stim = 0b01#2
  · cases σ with
    | cycle4 => rw [decode_eq_pollC4 h hp, decode_eq_pollC4 h' (hop ▸ hp), ha, hb]
    | edge => rw [decode_eq_pollEdge h hp, decode_eq_pollEdge h' (hop ▸ hp), ha, hb, hdb rfl]
  · exact decode_congr_of_op_ne_poll h h' hop hp

end

/-- Settles O5: two events that agree on the fields read decode alike. -/
theorem unreadFieldsAreIgnored : Obligations.UnreadFieldsAreIgnored := by
  intro σ e e' hrst
  refine ⟨fun hr hcfg => ?_, fun hr hop => ?_⟩
  · rw [decode_of_isConstruct (isConstruct_iff.2 hr), decode_of_isConstruct (isConstruct_iff.2 (hrst ▸ hr)), hcfg]
  · have h : isConstruct e = false := isConstruct_eq_false_iff.2 hr
    have h' : isConstruct e' = false := isConstruct_eq_false_iff.2 (hrst ▸ hr)
    refine ⟨decode_congr_of_op_ne_poll h h' hop, fun ha hb => ⟨?_, fun hdb => ?_⟩⟩
    · rintro rfl
      exact decode_congr h h' hop ha hb nofun
    · exact decode_congr h h' hop ha hb fun _ => hdb

/-! ### Listed words -/

/-- Settles O6: each listed word is put together from the fields written here. -/
theorem workedEncodings : Obligations.WorkedEncodings := by
  intro c
  refine ⟨?_, ?_, ?_, ?_, ?_, rfl, fun σ => ⟨?_, ?_, ?_, ?_⟩⟩
  · exact decode_pollC4_word 0b00#2 .low .high c
  · exact decode_pollEdge_word .notStarted .low .high c
  · exact decode_pollEdge_word .finished .high .low c
  · exact decode_pollEdge_word .ongoing .high .high c
  · exact decode_pollEdge_word .reserved3 .high .high c
  · exact decode_getposDeg_word 0b00#2 0#1 0#1 c
  · exact decode_construct_word 0b00#2 0b00#2 0#1 0#1 c
  · exact decode_construct_word 0b01#2 0b10#2 1#1 1#1 c
  · exact decode_nop_word 0b11#2 1#1 1#1 c

/-- Settles O7: no direction has the code 0b10, so no response does. -/
theorem dirCodes : Obligations.DirCodes :=
  ⟨⟨rfl, rfl, rfl⟩, fun d => ⟨d.code_eq_ofInt_dval, d.toInt_code⟩, fun _ t _ => t.resp.dir.code_ne_two⟩

theorem offsets_classify (x y : Bool) : (classify x y).offsets = (x, y) := by
  cases x <;> cases y <;> rfl

theorem xorOff_offDefault (l r : Level) : r.xorOff (offDefault l r) = l := by
  cases l <;> cases r <;> rfl

/-- The converse of `stepOf_pollStepLevels`: the levels of a step are the only ones that classify to it. -/
theorem pollStepLevels_stepOf (r a b : Level) : pollStepLevels r (stepOf r a b) = (a, b) := by
  simp [pollStepLevels, stepOf, offsets_classify, xorOff_offDefault]

/-- R76: the line POLLSTEP writes the event of the POLL it stands for. -/
theorem assemble_pollStep (r : Level) (c : StepCode) :
    (AsmLine.pollStep c).assemble r = encode (.pollC4 (pollStepLevels r c).1 (pollStepLevels r c).2) := rfl

theorem assemble_getpos_detents (r : Level) : (AsmLine.getpos .detents).assemble r = encode .getposDet := rfl

theorem assemble_getpos_degrees (r : Level) : (AsmLine.getpos .degrees).assemble r = encode .getposDeg := rfl

/-- Settles O8: each line writes the event of the operation it stands for, and `stepOf` and `pollStepLevels` are
inverse. -/
theorem macrosExpandAsListed : Obligations.MacrosExpandAsListed := by
  intro r c
  refine ⟨stepOf_pollStepLevels r c, ?_, ?_, by decide, by decide, rfl, fun σ => ⟨?_, ?_⟩⟩
  · rintro a b rfl
    exact (pollStepLevels_stepOf r a b).symm
  · rw [assemble_pollStep]
    exact decode_encode rfl
  · rw [assemble_getpos_detents]
    exact decode_encode rfl
  · rw [assemble_getpos_degrees]
    exact decode_encode rfl

end Sys2Proof.Machine
end

section
/-! SUPPORT. What a CONSTRUCT does in every state: one next state, or a refusal on zero detents; the lifetime it begins;
and NOP (spec/40_construct_and_hold.md R90 to R94). -/

namespace Sys2Proof.Machine

/-! ### The configuration inputs -/

/-- R92 with the default of R6 written out. -/
theorem wellFormed_iff_detents_pos {c : CtorInputs} : c.wellFormed = true ↔ 0 < c.detents.getD 24 :=
  decide_eq_true_iff

theorem wellFormed_iff_detents_ne_zero {c : CtorInputs} : c.wellFormed = true ↔ c.detents ≠ some 0 := by
  rw [ne_eq, ← CtorInputs.wellFormed_eq_false, Bool.not_eq_false]

/-- R69, R90: the inputs as copied, with the defaults of R6 written out. -/
theorem configurationOf_copies (c : CtorInputs) (h : c.wellFormed = true) :
    (configurationOf c h).pinA = c.pinA ∧ (configurationOf c h).pinB = c.pinB ∧
      (configurationOf c h).debounceMs = c.debounceMs.getD 70 ∧
      (configurationOf c h).detents = c.detents.getD 24 ∧
      (configurationOf c h).maxAngle = c.maxAngle.getD 360 ∧
      (configurationOf c h).strategy = c.strategy.getD .cycle4 :=
  ⟨rfl, rfl, rfl, rfl, rfl, rfl⟩

/-- R93, of the configuration inputs. -/
theorem scaleOf_configurationOf (c : CtorInputs) (h : c.wellFormed = true) :
    scaleOf (configurationOf c h) =
      Config.num.div (Config.num.ofNat (c.maxAngle.getD 360)) (Config.num.ofNat (c.detents.getD 24)) := rfl

/-! ### The outcomes of CONSTRUCT -/

theorem exec_construct_of_wellFormed {c : CtorInputs} (h : c.wellFormed = true) (s : State) :
    exec (.construct c) s = .next (s.construct (configurationOf c h)) :=
  execConstruct_next.2 ⟨h, rfl⟩

theorem exec_construct_completes_iff {c : CtorInputs} {s : State} :
    (∃ t, exec (.construct c) s = .next t) ↔ c.wellFormed = true :=
  ⟨fun ⟨_, ht⟩ => (execConstruct_next.1 ht).1, fun h => ⟨_, exec_construct_of_wellFormed h s⟩⟩

theorem exec_construct_zeroDetents_iff {c : CtorInputs} {s : State} :
    exec (.construct c) s = .refused .zeroDetents ↔ c.wellFormed = false :=
  execConstruct_refused.trans (and_iff_left rfl)

/-! ### The lifetime that a CONSTRUCT begins -/

/-- What a run that begins with a CONSTRUCT shows: the idle response, and then what the fresh lifetime answers. -/
theorem shown_runEvents_construct_cons {e : Event} (he : isConstruct e = true) (hwf : e.cfg.wellFormed = true)
    (s : State) (es : List Event) :
    shown (runEvents (e :: es) s) =
      (shown (runEvents es (s.construct (configurationOf e.cfg hwf)))).map (Option.map (.idle :: ·)) id := by
  refine shown_runEvents_cons_of_next ?_
  rw [decode_of_isConstruct he]
  exact exec_construct_of_wellFormed hwf s

/-- Settles O12: the states that the two CONSTRUCTs leave agree on all that responses are made of. -/
theorem constructEndsTheLifetimeBefore : Obligations.ConstructEndsTheLifetimeBefore := by
  intro e s s' es he hwf
  have hfresh := State.construct_sameForAnswers s s' (configurationOf e.cfg hwf)
  rw [shown_runEvents_construct_cons he hwf s, shown_runEvents_construct_cons he hwf s', hfresh.shown_eq es]

/-- Settles O9: the state left holds the configuration copied and is fresh. -/
theorem constructWritesTheInitialState : Obligations.ConstructWritesTheInitialState := by
  intro c s hwf
  have hfresh := s.construct_fresh (configurationOf c hwf)
  exact ⟨_, exec_construct_of_wellFormed hwf s, rfl, configurationOf_copies c hwf,
    hfresh.scale.trans (scaleOf_configurationOf c hwf), hfresh.dfltValid, hfresh.curStep, hfresh.prevStep,
    hfresh.acc, hfresh.cycleFinished, hfresh.settling, hfresh.position, rfl, rfl, rfl⟩

/-- Settles O10: well-formedness decides the outcome, and the configuration's type carries the last clause. -/
theorem constructRefusedExactlyOnZeroDetents : Obligations.ConstructRefusedExactlyOnZeroDetents :=
  fun _ s => ⟨wellFormed_iff_detents_pos,
    exec_construct_zeroDetents_iff.trans CtorInputs.wellFormed_eq_false,
    exec_construct_completes_iff.trans wellFormed_iff_detents_ne_zero,
    s.cfg.detents_pos⟩

/-- Settles O11: with an instance, NOP answers idle and writes nothing else. -/
theorem nopHoldsEverything : Obligations.NopHoldsEverything :=
  fun _ hlive => execNop_next.2 ⟨hlive, rfl⟩

end Sys2Proof.Machine
end

section
/-! SUPPORT. A decoding poll as one function of the cycle registers (spec/41_poll_cycle4.md R103 to R110, R118): one
equation for its three branches, and from it what one POLL.C4 does. -/

namespace Sys2Proof.Machine

/-! ### The cycle registers -/

/-- The registers by which a decoding poll chooses its branch and its result: `p`, `k` and `f` of R118. -/
structure CycleRegs where
  prevStep : StepCode
  acc : Int
  cycleFinished : Bool

/-- The cycle registers of a state. -/
def State.cycle (s : State) : CycleRegs := ⟨s.prevStep, s.acc, s.cycleFinished⟩

namespace CycleRegs

/-- The cycle registers at rest (R112). -/
def rest : CycleRegs := ⟨.s0, 0, true⟩

/-- The cycle registers after a poll that sees step `c`: branch (c), (a) or (b). -/
def next (k : CycleRegs) (c : StepCode) : CycleRegs :=
  if c = .s0 then rest
  else if k.cycleFinished then ⟨c, k.acc, false⟩
  else ⟨c, k.acc + delta k.prevStep c, false⟩

/-- The result of a poll that sees step `c` (R110). -/
def result (k : CycleRegs) (c : StepCode) : Dir := if c = .s0 then dirOfAcc k.acc else .neutral

variable {k : CycleRegs} {c : StepCode}

@[simp] theorem next_s0 (k : CycleRegs) : k.next .s0 = rest := rfl

theorem next_of_begins (hf : k.cycleFinished = true) (hc : c ≠ .s0) : k.next c = ⟨c, k.acc, false⟩ := by
  simp [next, hc, hf]

theorem next_of_accumulates (hf : k.cycleFinished = false) (hc : c ≠ .s0) :
    k.next c = ⟨c, k.acc + delta k.prevStep c, false⟩ := by
  simp [next, hc, hf]

@[simp] theorem result_s0 (k : CycleRegs) : k.result .s0 = dirOfAcc k.acc := rfl

theorem result_of_ne_s0 (hc : c ≠ .s0) : k.result c = .neutral := if_neg hc

/-- R109: in all three branches the step becomes the previous step. -/
@[simp] theorem next_prevStep (k : CycleRegs) (c : StepCode) : (k.next c).prevStep = c := by
  by_cases hc : c = .s0
  · rw [hc]; rfl
  · cases hf : k.cycleFinished with
    | true => rw [next_of_begins hf hc]
    | false => rw [next_of_accumulates hf hc]

/-- A cycle is in progress exactly off step 0 (R40 (i)). -/
theorem next_cycleFinished_of_ne_s0 (hc : c ≠ .s0) : (k.next c).cycleFinished = false := by
  cases hf : k.cycleFinished with
  | true => rw [next_of_begins hf hc]
  | false => rw [next_of_accumulates hf hc]

/-- R116: the step just seen changes no register, since it is no transition. -/
theorem next_next_same (k : CycleRegs) (c : StepCode) : (k.next c).next c = k.next c := by
  by_cases hc : c = .s0
  · rw [hc]; rfl
  · have hrepeat : ∀ n, (⟨c, n, false⟩ : CycleRegs).next c = ⟨c, n, false⟩ := fun n => by
      rw [next_of_accumulates rfl hc, delta_self, add_zero]
    cases hf : k.cycleFinished with
    | true => rw [next_of_begins hf hc, hrepeat]
    | false => rw [next_of_accumulates hf hc, hrepeat]

/-- R116: nor does it report anything. -/
theorem result_next_same (k : CycleRegs) (c : StepCode) : (k.next c).result c = .neutral := by
  by_cases hc : c = .s0
  · rw [hc]; rfl
  · exact result_of_ne_s0 hc

end CycleRegs

/-! ### Results and their weights -/

theorem dirOfAcc_ne_neutral_iff {k : Int} : dirOfAcc k ≠ .neutral ↔ k ≠ 0 := by
  rcases lt_trichotomy k 0 with h | rfl | h
  · simp [dirOfAcc_neg h, h.ne]
  · simp [dirOfAcc_zero]
  · simp [dirOfAcc_pos h, h.ne']

theorem CycleRegs.result_ne_neutral_iff {k : CycleRegs} {c : StepCode} :
    k.result c ≠ .neutral ↔ c = .s0 ∧ k.acc ≠ 0 := by
  by_cases hc : c = .s0
  · simp [hc, dirOfAcc_ne_neutral_iff]
  · simp [CycleRegs.result_of_ne_s0 hc, hc]

theorem Dir.dval_eq_zero_iff {d : Dir} : d.dval = 0 ↔ d = .neutral := by
  cases d <;> decide

/-- R110: a position that moves by the weight of a result changes exactly when the result is not `Neutral`. -/
theorem Dir.add_dval_ne_iff {d : Dir} {n : Int} : n + d.dval ≠ n ↔ d ≠ .neutral := by
  rw [ne_eq, add_eq_left, Dir.dval_eq_zero_iff]

/-! ### One POLL.C4 -/

section

variable {s t : State}

/-- R100: the whole of a decoding poll. -/
theorem State.decodePoll_eq (s : State) (a b : Level) :
    s.decodePoll a b = { s with
      aS := a, bS := b, curStep := stepOf s.ref a b,
      prevStep := (s.cycle.next (stepOf s.ref a b)).prevStep,
      acc := (s.cycle.next (stepOf s.ref a b)).acc,
      cycleFinished := (s.cycle.next (stepOf s.ref a b)).cycleFinished,
      position := s.position + (s.cycle.result (stepOf s.ref a b)).dval,
      resp := pollResponse (s.cycle.result (stepOf s.ref a b)) false, calls := [s.pinSample] } := by
  rcases s.decodePoll_cases a b with ⟨hf, hc, h⟩ | ⟨hf, hc, h⟩ | ⟨hc, h⟩
  · rw [h, CycleRegs.next_of_begins (k := s.cycle) hf hc, CycleRegs.result_of_ne_s0 hc]
    simp [State.cycle, Dir.dval]
  · rw [h, CycleRegs.next_of_accumulates (k := s.cycle) hf hc, CycleRegs.result_of_ne_s0 hc]
    simp [State.cycle, Dir.dval, hf]
  · rw [h, hc]; rfl

@[simp] theorem State.decodePoll_cycle (s : State) (a b : Level) :
    (s.decodePoll a b).cycle = s.cycle.next (stepOf s.ref a b) := by
  rw [State.decodePoll_eq]; rfl

/-- R30: a decoding poll leaves the default level recorded, and the reference. -/
theorem State.decodePoll_dfltValid (s : State) (a b : Level) : (s.decodePoll a b).dfltValid = s.dfltValid := by
  rw [State.decodePoll_eq]

theorem State.decodePoll_ref (s : State) (a b : Level) : (s.decodePoll a b).ref = s.ref := (s.decodePoll_writes a b).1

theorem State.decodePoll_position (s : State) (a b : Level) :
    (s.decodePoll a b).position = s.position + (s.cycle.result (stepOf s.ref a b)).dval := by
  rw [State.decodePoll_eq]

theorem State.decodePoll_dir (s : State) (a b : Level) :
    (s.decodePoll a b).resp.dir = s.cycle.result (stepOf s.ref a b) := by
  rw [State.decodePoll_eq]; rfl

theorem State.SameLifetime.decodesBy {σ : Strategy} (h : s.SameLifetime t) (hs : s.decodesBy σ) : t.decodesBy σ :=
  ⟨h.live.trans hs.1, h.cfg ▸ hs.2⟩

theorem exec_pollC4_of_first (hs : s.decodesBy .cycle4) (hv : s.dfltValid = false) (a b : Level) :
    exec (.pollC4 a b) s = .next (s.firstPoll a b) :=
  execPollC4_next.2 ⟨hs.1, hs.2, by simp [hv]⟩

theorem exec_pollC4_of_decoding (hs : s.decodesBy .cycle4) (hv : s.dfltValid = true) (a b : Level) :
    exec (.pollC4 a b) s = .next (s.decodePoll a b) :=
  execPollC4_next.2 ⟨hs.1, hs.2, by simp [hv]⟩

/-- The view of R118 after a decoding poll, as the cycle registers have it. -/
theorem State.decodePoll_c4View (hv : s.dfltValid = true) (a b : Level) :
    (s.decodePoll a b).c4View =
      (true, s.ref, stepOf s.ref a b, (s.cycle.next (stepOf s.ref a b)).acc,
        (s.cycle.next (stepOf s.ref a b)).cycleFinished,
        s.position + (s.cycle.result (stepOf s.ref a b)).dval) := by
  simp [State.decodePoll_eq, State.c4View, hv]

/-- Settles O18: the first poll is the first row, and in the five others the registers and the result are those of the
branch. -/
theorem pollC4AsOneFunction : Obligations.PollC4AsOneFunction := by
  intro a b s c hs hstep
  change c = stepOf s.ref a b at hstep
  cases hv : s.dfltValid with
  | false =>
    refine ⟨_, exec_pollC4_of_first hs hv a b, ?_⟩
    simp [State.firstPoll, State.c4View, pollResponse, State.pinSample]
  | true =>
    refine ⟨_, exec_pollC4_of_decoding hs hv a b, ?_⟩
    rw [State.decodePoll_c4View hv, State.decodePoll_dir, State.decodePoll_eq, ← hstep]
    refine ⟨⟨rfl, rfl⟩, nofun, fun _ => rfl, fun _ hc hf => ?_, fun _ hc hf => ?_, fun _ hc hk => ?_,
      fun _ hc hk => ?_, fun _ hc hk => ?_, ⟨rfl, rfl, rfl⟩, rfl, rfl, rfl, rfl, rfl, rfl⟩
    · rw [CycleRegs.next_of_begins hf hc, CycleRegs.result_of_ne_s0 hc]
      simp [State.cycle, Dir.dval]
    · rw [CycleRegs.next_of_accumulates hf hc, CycleRegs.result_of_ne_s0 hc]
      simp [State.cycle, Dir.dval]
    · rw [hc, CycleRegs.result_s0, dirOfAcc_pos (k := s.cycle.acc) hk]
      exact ⟨rfl, rfl⟩
    · rw [hc, CycleRegs.result_s0, dirOfAcc_neg (k := s.cycle.acc) hk]
      exact ⟨rfl, rfl⟩
    · rw [hc, CycleRegs.result_s0, State.cycle, hk, dirOfAcc_zero]
      simp [CycleRegs.rest, Dir.dval]

/-- Settles O15: both lookups are tables, and a decoding poll holds the step it looked up. -/
theorem classifyIsTheStepTable : Obligations.ClassifyIsTheStepTable := by
  refine ⟨fun l r => ?_, ⟨rfl, rfl, rfl, rfl⟩, by decide, fun p c hmove => ?_, fun a b s hs hv => ?_⟩
  · cases l <;> cases r <;> rfl
  · cases p <;> cases c <;> simp [ringMove, StepCode.offsets, classify] at hmove ⊢
  · exact ⟨_, exec_pollC4_of_decoding hs hv a b, by rw [State.decodePoll_eq]; rfl⟩

/-- Settles O16: the transition lookup is a table, and branch (b) adds the entry it finds. -/
theorem deltaIsTheTransitionTable : Obligations.DeltaIsTheTransitionTable := by
  refine ⟨fun p c => ?_, fun a b s hs hv hf hc => ⟨_, exec_pollC4_of_decoding hs hv a b, ?_⟩⟩
  · cases p <;> cases c <;> decide
  · rw [State.decodePoll_eq, CycleRegs.next_of_accumulates hf hc, CycleRegs.result_of_ne_s0 hc]
    exact ⟨rfl, rfl, rfl⟩

/-- Settles O17: against contact A's own level contact A is at the default, and contact B is where it differs from it. -/
theorem firstPollRecordsContactA : Obligations.FirstPollRecordsContactA := by
  intro a b s hs hv
  refine ⟨_, exec_pollC4_of_first hs hv a b, s.firstPoll_eq a b, fun hb => ?_, fun hb => ?_⟩
  · simp [State.firstPoll, stepOf, offDefault, hb, classify]
  · simp [State.firstPoll, stepOf, offDefault, hb, classify]

/-- R116: a second poll at the same levels writes the output side alone. -/
theorem State.decodePoll_decodePoll (s : State) (a b : Level) :
    (s.decodePoll a b).decodePoll a b =
      (s.decodePoll a b).answer (pollResponse .neutral false) [(s.decodePoll a b).pinSample] := by
  rw [State.decodePoll_eq (s.decodePoll a b), State.decodePoll_cycle, State.decodePoll_ref,
    CycleRegs.next_next_same, CycleRegs.result_next_same, State.decodePoll_eq s]
  simp [State.answer, Dir.dval]

/-- Settles O22: the same levels are the same step, which the poll before has persisted. -/
theorem repeatedSampleChangesNothing : Obligations.RepeatedSampleChangesNothing := by
  intro a b s t hs hv hx
  obtain rfl : t = s.decodePoll a b := execPollC4_eq_decodePoll hv hx
  have ht : (s.decodePoll a b).decodesBy .cycle4 := (s.decodePoll_sameLifetime a b).decodesBy hs
  rw [exec_pollC4_of_decoding ht ((s.decodePoll_dfltValid a b).trans hv), State.decodePoll_decodePoll]
  rfl

/-- R110: what a POLL.C4 reports is what the position moves by, and it reports only at step 0. -/
theorem execPollC4_position {a b : Level} (hx : execPollC4 a b s = .next t) :
    t.position = s.position + t.resp.dir.dval ∧
    (t.resp.dir ≠ .neutral ↔ s.dfltValid = true ∧ stepOf s.ref a b = .s0 ∧ s.acc ≠ 0) := by
  cases hv : s.dfltValid with
  | false =>
    rw [execPollC4_eq_firstPoll hv hx]
    simp [State.firstPoll, pollResponse, Dir.dval]
  | true =>
    rw [execPollC4_eq_decodePoll hv hx, State.decodePoll_position, State.decodePoll_dir,
      CycleRegs.result_ne_neutral_iff]
    exact ⟨rfl, by simp [State.cycle]⟩

theorem edgeDir_ne_neutral (a b : Level) : edgeDir a b ≠ .neutral := by
  cases a <;> cases b <;> decide

/-- R138: what a POLL.EDGE reports is what the position moves by, and it reports only when the gate it calls has
finished. -/
theorem execPollEdge_position {a b : Level} {db : GateCode} (hx : execPollEdge a b db s = .next t) :
    t.position = s.position + t.resp.dir.dval ∧
    (t.resp.dir ≠ .neutral ↔ t.resp.gateReq = true ∧ db = .finished) := by
  obtain ⟨-, -, rfl⟩ := execPollEdge_next.1 hx
  rw [← gateFinished_iff]
  split_ifs with hv hset hfin
  · exact ⟨rfl, iff_of_true (edgeDir_ne_neutral a b) ⟨rfl, hfin⟩⟩
  · simp [State.waitingPoll, pollResponse, Dir.dval, hfin]
  · simp [State.restingPoll, pollResponse, Dir.dval]
  · simp [State.firstEdgePoll, pollResponse, Dir.dval]

/-- Settles O27: under either strategy the position moves by the weight of the report. -/
theorem positionMovesWithTheResult : Obligations.PositionMovesWithTheResult := by
  refine fun s t => ⟨fun a b hx => ?_, fun a b db hx => ?_⟩
  · obtain ⟨hpos, hdir⟩ := execPollC4_position hx
    exact ⟨hpos, hpos ▸ Dir.add_dval_ne_iff, hdir⟩
  · obtain ⟨hpos, hdir⟩ := execPollEdge_position hx
    exact ⟨hpos, hpos ▸ Dir.add_dval_ne_iff, hdir⟩

end

end Sys2Proof.Machine
end

section
/-! SUPPORT. Sequences of step codes under CYCLE4: what the cycle registers make of one, that a run of POLLSTEPs does
just that, and the cycles of spec/41_poll_cycle4.md R112, R114, R115 and R119. -/

namespace Sys2Proof.Machine

/-! ### A sequence of steps, on the cycle registers -/

namespace CycleRegs

/-- The cycle registers after decoding polls that see the steps `cs`. -/
def after (k : CycleRegs) (cs : List StepCode) : CycleRegs := cs.foldl next k

/-- What these polls report. -/
def results : CycleRegs → List StepCode → List Dir
  | _, [] => []
  | k, c :: cs => k.result c :: (k.next c).results cs

/-- What the position moves by over these polls (R110). -/
def detents (k : CycleRegs) (cs : List StepCode) : Int := ((k.results cs).map Dir.dval).sum

variable {k : CycleRegs} {c p first last : StepCode} {cs : List StepCode}

@[simp] theorem after_nil (k : CycleRegs) : k.after [] = k := rfl

@[simp] theorem after_cons (k : CycleRegs) (c : StepCode) (cs : List StepCode) :
    k.after (c :: cs) = (k.next c).after cs := rfl

theorem after_concat (k : CycleRegs) (cs : List StepCode) (c : StepCode) :
    k.after (cs ++ [c]) = (k.after cs).next c := List.foldl_concat ..

@[simp] theorem detents_nil (k : CycleRegs) : k.detents [] = 0 := rfl

@[simp] theorem detents_cons (k : CycleRegs) (c : StepCode) (cs : List StepCode) :
    k.detents (c :: cs) = (k.result c).dval + (k.next c).detents cs := List.sum_cons

theorem results_concat (k : CycleRegs) (cs : List StepCode) (c : StepCode) :
    k.results (cs ++ [c]) = k.results cs ++ [(k.after cs).result c] := by
  induction cs generalizing k with
  | nil => rfl
  | cons d cs ih => simp [results, ih]

/-- The step seen last is the previous step (R109). -/
theorem after_prevStep (h : cs.getLast? = some last) : (k.after cs).prevStep = last := by
  obtain ⟨init, rfl⟩ := List.getLast?_eq_some_iff.1 h
  rw [after_concat, next_prevStep]

theorem s0_notMem_cons : .s0 ∉ c :: cs ↔ c ≠ .s0 ∧ .s0 ∉ cs := by
  simp [eq_comm]

/-- Off step 0 nothing is reported (R105, R106). -/
theorem results_of_s0_notMem (h : .s0 ∉ cs) : k.results cs = List.replicate cs.length .neutral := by
  induction cs generalizing k with
  | nil => rfl
  | cons c cs ih =>
    obtain ⟨hc, hcs⟩ := s0_notMem_cons.1 h
    rw [results, result_of_ne_s0 hc, ih hcs]; rfl

theorem detents_of_s0_notMem (h : .s0 ∉ cs) : k.detents cs = 0 := by
  simp [detents, results_of_s0_notMem h, Dir.dval]

/-- A cycle is closed by the first step 0, with the sign of the accumulator (R108). -/
theorem detents_concat_s0 (h : .s0 ∉ cs) : k.detents (cs ++ [.s0]) = (dirOfAcc (k.after cs).acc).dval := by
  simp [detents, results_concat, results_of_s0_notMem h, Dir.dval]

/-! ### A gray-valid cycle (R119) -/

/-- Inside a cycle the move of a near pair is what the pair adds to the accumulator. -/
theorem ringMove_of_ne_s0 {d : Int} (hp : p ≠ .s0) (hc : c ≠ .s0) (h : ringMove p c = some d) :
    delta p c = d ∧ c.toInt = p.toInt + d := by
  revert hp hc h
  cases p <;> cases c <;> simp [ringMove, delta, StepCode.toInt] <;> omega

/-- A cycle is in progress that was entered at `first` and skipped no step since: the accumulator is the way from the
first step to the latest. -/
structure Entered (first : StepCode) (k : CycleRegs) : Prop where
  cycleFinished : k.cycleFinished = false
  first_ne : first ≠ .s0
  prevStep_ne : k.prevStep ≠ .s0
  acc : k.acc = k.prevStep.toInt - first.toInt

/-- The opening transition is not counted (R105). -/
theorem entered_next_rest (hc : c ≠ .s0) : (rest.next c).Entered c := by
  rw [next_of_begins rfl hc]
  exact ⟨rfl, hc, hc, by simp [rest]⟩

theorem Entered.next (h : k.Entered first) (hc : c ≠ .s0) (hnear : ringNear k.prevStep c) :
    (k.next c).Entered first := by
  obtain ⟨d, hd⟩ := Option.isSome_iff_exists.1 hnear
  obtain ⟨hdelta, hto⟩ := ringMove_of_ne_s0 h.prevStep_ne hc hd
  rw [next_of_accumulates h.cycleFinished hc]
  refine ⟨rfl, h.first_ne, hc, ?_⟩
  simp only [hdelta, h.acc, hto]
  omega

theorem Entered.after (h : k.Entered first) (hcs : .s0 ∉ cs) (hgray : (k.prevStep :: cs).IsChain ringNear) :
    (k.after cs).Entered first := by
  induction cs generalizing k with
  | nil => exact h
  | cons c cs ih =>
    obtain ⟨hc, hcs⟩ := s0_notMem_cons.1 hcs
    obtain ⟨hnear, hgray⟩ := List.isChain_cons_cons.1 hgray
    exact ih (h.next hc hnear) hcs (by rwa [next_prevStep])

/-- From rest a gray-valid sequence of non-zero steps is one cycle in progress. -/
theorem after_rest_entered (hfirst : cs.head? = some first) (hcs : .s0 ∉ cs) (hgray : cs.IsChain ringNear) :
    (rest.after cs).Entered first := by
  obtain ⟨cs, rfl⟩ := List.head?_eq_some_iff.1 hfirst
  obtain ⟨hc, hcs⟩ := s0_notMem_cons.1 hcs
  exact (entered_next_rest hc).after hcs (by rwa [next_prevStep])

/-! ### Counting every detent (R114, R190) -/

/-- A gray-valid sequence has brought the registers here by `m` net ring moves since they were last at rest, the
opening one among them. -/
inductive MovedSinceRest : Int → CycleRegs → Prop where
  | rest : MovedSinceRest 0 rest
  | entered {k : CycleRegs} {first : StepCode} {d : Int} (h : k.Entered first) (hopen : ringMove .s0 first = some d) :
      MovedSinceRest (d + k.acc) k

/-- The first and the last move of a cycle make up for the counted ones: four moves are a detent. -/
theorem Entered.four_mul_dirOfAcc {d d' : Int} (h : k.Entered first) (hopen : ringMove .s0 first = some d)
    (hclose : ringMove k.prevStep .s0 = some d') : 4 * (dirOfAcc k.acc).dval = d + k.acc + d' := by
  rw [h.acc]
  have hfirst := h.first_ne
  have hprev := h.prevStep_ne
  revert hopen hclose hfirst hprev
  cases first <;> cases k.prevStep <;> simp [ringMove, StepCode.toInt, dirOfAcc, Dir.dval] <;> omega

theorem MovedSinceRest.next {m d : Int} (h : MovedSinceRest m k) (hmove : ringMove k.prevStep c = some d) :
    ∃ m', MovedSinceRest m' (k.next c) ∧ 4 * (k.result c).dval + m' = m + d := by
  by_cases hc : c = .s0
  · subst hc
    refine ⟨0, .rest, ?_⟩
    cases h with
    | rest => cases hmove; rfl
    | entered h hopen => rw [result_s0, h.four_mul_dirOfAcc hopen hmove, add_zero]
  · rw [result_of_ne_s0 hc]
    cases h with
    | rest =>
      refine ⟨_, .entered (entered_next_rest hc) hmove, ?_⟩
      rw [(entered_next_rest hc).acc, next_prevStep]
      simp [Dir.dval]
    | entered h hopen =>
      refine ⟨_, .entered (h.next hc (Option.isSome_iff_exists.2 ⟨d, hmove⟩)) hopen, ?_⟩
      rw [next_of_accumulates h.cycleFinished hc]
      simp [(ringMove_of_ne_s0 h.prevStep_ne hc hmove).1, Dir.dval, add_assoc]

theorem MovedSinceRest.after {m w : Int} (h : MovedSinceRest m k) (hw : winding k.prevStep cs = some w) :
    ∃ m', MovedSinceRest m' (k.after cs) ∧ 4 * k.detents cs + m' = m + w := by
  induction cs generalizing k m w with
  | nil => cases hw; exact ⟨m, h, by simp⟩
  | cons c cs ih =>
    obtain ⟨d, w', hmove, hw', rfl⟩ := winding_cons.1 hw
    obtain ⟨m₁, h₁, hm₁⟩ := h.next hmove
    obtain ⟨m₂, h₂, hm₂⟩ := ih h₁ (by rwa [next_prevStep])
    exact ⟨m₂, h₂, by rw [detents_cons]; omega⟩

/-- R190: a gray-valid sequence that comes back to step 0 has counted a detent for every four moves. -/
theorem after_rest_of_winding {w : Int} (hw : winding .s0 cs = some w) (hend : cs = [] ∨ cs.getLast? = some .s0) :
    rest.after cs = rest ∧ 4 * rest.detents cs = w := by
  obtain ⟨m, hm, hsum⟩ := MovedSinceRest.rest.after hw
  have hprev : (rest.after cs).prevStep = .s0 := by
    rcases hend with rfl | hlast
    · rfl
    · exact after_prevStep hlast
  generalize rest.after cs = k at hm hprev
  cases hm with
  | rest => exact ⟨rfl, by omega⟩
  | entered h hopen => exact absurd hprev h.prevStep_ne

/-! ### An advance that comes back (R115) -/

/-- What the transitions between consecutive steps add to the accumulator inside a cycle. -/
def deltaSum : List StepCode → Int
  | [] => 0
  | [_] => 0
  | p :: c :: cs => delta p c + deltaSum (c :: cs)

theorem after_acc (hf : k.cycleFinished = false) (hcs : .s0 ∉ cs) :
    (k.after cs).acc = k.acc + deltaSum (k.prevStep :: cs) := by
  induction cs generalizing k with
  | nil => simp [deltaSum]
  | cons c cs ih =>
    obtain ⟨hc, hcs⟩ := s0_notMem_cons.1 hcs
    rw [after_cons, ih (next_cycleFinished_of_ne_s0 hc) hcs, next_of_accumulates hf hc, deltaSum, add_assoc]

theorem after_rest_acc (hcs : .s0 ∉ cs) : (rest.after cs).acc = deltaSum cs := by
  cases cs with
  | nil => rfl
  | cons c cs =>
    obtain ⟨hc, hcs⟩ := s0_notMem_cons.1 hcs
    rw [after_cons, next_of_begins rfl hc, after_acc rfl hcs]
    exact zero_add _

theorem deltaSum_concat (cs : List StepCode) (p c : StepCode) :
    deltaSum (cs ++ [p, c]) = deltaSum (cs ++ [p]) + delta p c := by
  induction cs with
  | nil => simp [deltaSum]
  | cons d cs ih =>
    cases cs with
    | nil => simp [deltaSum]
    | cons e cs => simpa [deltaSum, add_assoc] using ih

/-- Off step 0 a transition back undoes the transition, skips included (R107). -/
theorem delta_swap (hp : p ≠ .s0) (hc : c ≠ .s0) : delta c p = -delta p c := by
  revert hp hc
  cases p <;> cases c <;> decide

theorem deltaSum_reverse (hcs : .s0 ∉ cs) : deltaSum cs.reverse = -deltaSum cs := by
  induction cs with
  | nil => rfl
  | cons p cs ih =>
    obtain ⟨hp, hcs⟩ := s0_notMem_cons.1 hcs
    cases cs with
    | nil => rfl
    | cons c cs =>
      have hback : delta c p = -delta p c := delta_swap hp (s0_notMem_cons.1 hcs).1
      have hrest : deltaSum (cs.reverse ++ [c]) = -deltaSum (c :: cs) := by rw [← List.reverse_cons, ih hcs]
      rw [List.reverse_cons, List.reverse_cons, List.append_assoc, List.singleton_append, deltaSum_concat, hrest,
        hback, deltaSum, neg_add_rev]

/-- R115: an advance that retraces its steps leaves nothing in the accumulator. -/
theorem after_rest_acc_of_reverse_eq (hcs : .s0 ∉ cs) (hrev : cs.reverse = cs) : (rest.after cs).acc = 0 := by
  have hsum := deltaSum_reverse hcs
  rw [hrev] at hsum
  rw [after_rest_acc hcs]
  omega

/-- R115: nor does a gray-valid one without net move. -/
theorem after_rest_acc_of_winding_zero (hcs : .s0 ∉ cs) (hw : winding .s0 (cs ++ [.s0]) = some 0) :
    (rest.after cs).acc = 0 := by
  have hzero : 4 * rest.detents (cs ++ [.s0]) = 0 := (after_rest_of_winding hw (.inr List.getLast?_concat)).2
  rw [detents_concat_s0 hcs] at hzero
  have hdval : (dirOfAcc (rest.after cs).acc).dval = 0 := by omega
  exact not_not.1 (dirOfAcc_ne_neutral_iff.not.1 (not_not.2 (Dir.dval_eq_zero_iff.1 hdval)))

end CycleRegs

/-! ### A run of POLLSTEPs -/

section

variable {s t : State} {r : Level} {cs : List StepCode}

/-- A live state under CYCLE4 whose polls decode against the recorded level `r`. -/
structure State.DecodesAgainst (r : Level) (s : State) : Prop where
  decodesBy : s.decodesBy .cycle4
  dfltValid : s.dfltValid = true
  ref : s.ref = r

theorem State.DecodesAgainst.decodePoll (h : s.DecodesAgainst r) (a b : Level) :
    (s.decodePoll a b).DecodesAgainst r :=
  ⟨(s.decodePoll_sameLifetime a b).decodesBy h.decodesBy, (s.decodePoll_dfltValid a b).trans h.dfltValid,
    (s.decodePoll_ref a b).trans h.ref⟩

/-- A POLLSTEP is a decoding poll that sees its step (R76). -/
theorem State.DecodesAgainst.exec_pollStepEvent (h : s.DecodesAgainst r) (c : StepCode) :
    ∃ t, exec (decode s.cfg.strategy (pollStepEvent r c)) s = .next t ∧ t.DecodesAgainst r ∧
      t.cycle = s.cycle.next c ∧ t.resp.dir = s.cycle.result c ∧
      t.position = s.position + (s.cycle.result c).dval := by
  have hdec : decode s.cfg.strategy (pollStepEvent r c) =
      .pollC4 (pollStepLevels r c).1 (pollStepLevels r c).2 := by
    rw [h.decodesBy.2, pollStepEvent, assemble_pollStep]
    exact decode_encode rfl
  have hstep : stepOf s.ref (pollStepLevels r c).1 (pollStepLevels r c).2 = c := by
    rw [h.ref, stepOf_pollStepLevels]
  refine ⟨_, by rw [hdec, exec_pollC4_of_decoding h.decodesBy h.dfltValid], h.decodePoll _ _, ?_, ?_, ?_⟩
  · rw [State.decodePoll_cycle, hstep]
  · rw [State.decodePoll_dir, hstep]
  · rw [State.decodePoll_position, hstep]

/-- A run of POLLSTEPs completes and does to the cycle registers what the sequence of its steps does. -/
theorem State.DecodesAgainst.runEvents_pollSteps (h : s.DecodesAgainst r) (cs : List StepCode) :
    ∃ t rs, runEvents (cs.map (pollStepEvent r)) s = .next (t, rs) ∧ t.DecodesAgainst r ∧
      t.cycle = s.cycle.after cs ∧ rs.map Response.dir = s.cycle.results cs ∧
      t.position = s.position + s.cycle.detents cs := by
  induction cs generalizing s with
  | nil => exact ⟨s, [], rfl, h, rfl, rfl, by simp⟩
  | cons c cs ih =>
    obtain ⟨t, hx, ht, hcycle, hdir, hpos⟩ := h.exec_pollStepEvent c
    obtain ⟨u, rs, hrun, hu, hcycle', hdirs, hpos'⟩ := ih ht
    rw [hcycle] at hcycle' hdirs hpos'
    refine ⟨u, t.resp :: rs, runEvents_cons_next.2 ⟨t, rs, hx, hrun, rfl⟩, hu, hcycle', ?_, ?_⟩
    · rw [List.map_cons, hdirs, hdir]; rfl
    · rw [hpos', hpos, CycleRegs.detents_cons, add_assoc]

theorem State.atRest_iff : s.atRest ↔ s.dfltValid = true ∧ s.cycle = CycleRegs.rest := by
  simp only [State.atRest, State.cycle, CycleRegs.rest, CycleRegs.mk.injEq]
  tauto

theorem State.atRest.decodesAgainst (hr : s.atRest) (hs : s.decodesBy .cycle4) : s.DecodesAgainst s.ref :=
  ⟨hs, hr.1, rfl⟩

/-- From rest, what a run of POLLSTEPs leaves in the accumulator. -/
theorem State.atRest.run_acc (hr : s.atRest) (hs : s.decodesBy .cycle4) {n : Int}
    (hacc : (CycleRegs.rest.after cs).acc = n) :
    ∃ t rs, runEvents (cs.map (pollStepEvent s.ref)) s = .next (t, rs) ∧ t.acc = n := by
  obtain ⟨t, rs, hrun, -, hcycle, -⟩ := (hr.decodesAgainst hs).runEvents_pollSteps cs
  rw [(State.atRest_iff.1 hr).2] at hcycle
  exact ⟨t, rs, hrun, (congrArg CycleRegs.acc hcycle).trans hacc⟩

/-- From rest, what a run of POLLSTEPs reports. -/
theorem State.atRest.reports (hr : s.atRest) (hs : s.decodesBy .cycle4) {ds : List Dir} {n : Int}
    (hds : CycleRegs.rest.results cs = ds) (hn : CycleRegs.rest.detents cs = n) :
    s.reports (cs.map (pollStepEvent s.ref)) ds n := by
  obtain ⟨t, rs, hrun, -, -, hdirs, hpos⟩ := (hr.decodesAgainst hs).runEvents_pollSteps cs
  rw [(State.atRest_iff.1 hr).2] at hdirs hpos
  exact ⟨t, rs, hrun, hdirs.trans hds, hn ▸ hpos⟩

/-! ### The cycles of the rules -/

/-- Settles O24: the moves since the last rest and the detents counted make up the winding, by induction on the steps, and
at step 0 no move is left over. -/
theorem noSkipCountsEveryDetent : Obligations.NoSkipCountsEveryDetent := by
  intro s cs w hs hr hw hend
  obtain ⟨t, rs, hrun, ht, hcycle, -, hpos⟩ := (hr.decodesAgainst hs).runEvents_pollSteps cs
  rw [(State.atRest_iff.1 hr).2] at hcycle hpos
  obtain ⟨hrest, hcount⟩ := CycleRegs.after_rest_of_winding hw hend
  exact ⟨t, rs, hrun, State.atRest_iff.2 ⟨ht.dfltValid, hcycle.trans hrest⟩, by omega⟩

/-- A step other than 0 that is next to step 0 is step 1 or step 3. -/
theorem eq_s1_or_s3_of_ringNear_s0 {c : StepCode} (hc : c ≠ .s0) (h : ringNear .s0 c ∨ ringNear c .s0) :
    c = .s1 ∨ c = .s3 := by
  revert hc h
  cases c <;> simp [ringNear, ringMove]

/-- Settles O23: a gray-valid cycle is entered at its first step, and the accumulator is the way from there to the
last. -/
theorem grayValidCycleClosedForm : Obligations.GrayValidCycleClosedForm := by
  refine fun s hs hr => ⟨fun cs first last hfirst hlast hcs hgray => ?_, hr.run_acc hs (cs := [.s1, .s3]) rfl⟩
  have hrest : s.cycle = CycleRegs.rest := (State.atRest_iff.1 hr).2
  rw [grayFrom_iff_isChain, List.isChain_cons, List.isChain_append] at hgray
  obtain ⟨hopen, hinner, -, hclose⟩ := hgray
  have hentered : (CycleRegs.rest.after cs).Entered first := CycleRegs.after_rest_entered hfirst hcs hinner
  have hprev : (CycleRegs.rest.after cs).prevStep = last := CycleRegs.after_prevStep hlast
  obtain ⟨t, rs, hrun, ht, hcycle, hdirs, hpos⟩ := (hr.decodesAgainst hs).runEvents_pollSteps cs
  obtain ⟨u, hx, hu, hcycle', hdir', hpos'⟩ := ht.exec_pollStepEvent .s0
  rw [hrest] at hcycle hdirs hpos
  have hacc : t.acc = last.toInt - first.toInt := by
    rw [← hprev, ← hentered.acc, ← hcycle]; rfl
  have hposition : t.position = s.position := by
    rw [hpos, CycleRegs.detents_of_s0_notMem hcs, add_zero]
  have hdir : u.resp.dir = dirOfAcc (last.toInt - first.toInt) := by
    rw [hdir', CycleRegs.result_s0, ← hacc]; rfl
  have hposition' : u.position = s.position + (dirOfAcc (last.toInt - first.toInt)).dval := by
    rw [hpos', ← hdir', hdir, hposition]
  refine ⟨eq_s1_or_s3_of_ringNear_s0 hentered.first_ne (.inl (hopen first ?_)),
    eq_s1_or_s3_of_ringNear_s0 (hprev ▸ hentered.prevStep_ne) (.inr (hclose last hlast .s0 rfl)),
    t, rs, u, hrun, hacc, hposition, fun r hmem => ?_, hx, State.atRest_iff.2 ⟨hu.dfltValid, hcycle'⟩, ?_, ?_, ?_⟩
  · rw [List.head?_append, hfirst]; rfl
  · rw [CycleRegs.results_of_s0_notMem hcs] at hdirs
    exact List.eq_of_mem_replicate (hdirs ▸ List.mem_map_of_mem hmem)
  · rintro rfl rfl
    exact ⟨hdir, hposition'⟩
  · rintro rfl rfl
    exact ⟨hdir, hposition'⟩
  · rintro rfl
    rw [hdir, hposition', sub_self, dirOfAcc_zero]
    exact ⟨rfl, add_zero _⟩

/-- Settles O20: the two cycles, step by step. -/
theorem cleanCycleReportsOnce : Obligations.CleanCycleReportsOnce :=
  fun _ hs hr => ⟨hr.run_acc hs (cs := [.s1, .s2, .s3]) rfl, hr.reports hs (cs := [.s1, .s2, .s3, .s0]) rfl rfl,
    hr.run_acc hs (cs := [.s3, .s2, .s1]) rfl, hr.reports hs (cs := [.s3, .s2, .s1, .s0]) rfl rfl⟩

/-- Settles O19: step 0 leaves the rest state, from where each cycle is run step by step. -/
theorem stepZeroHeals : Obligations.StepZeroHeals := by
  intro a b s hs hv hc
  have h : (s.decodePoll a b).DecodesAgainst s.ref := State.DecodesAgainst.decodePoll ⟨hs, hv, rfl⟩ a b
  have hr : (s.decodePoll a b).atRest :=
    State.atRest_iff.2 ⟨h.dfltValid, by rw [State.decodePoll_cycle, hc, CycleRegs.next_s0]⟩
  refine ⟨_, exec_pollC4_of_decoding hs hv a b, hr, h.decodesBy, h.ref, ?_⟩
  rw [← h.ref]
  exact ⟨hr.reports h.decodesBy (cs := [.s1, .s2, .s3, .s0]) rfl rfl,
    hr.reports h.decodesBy (cs := [.s3, .s2, .s1, .s0]) rfl rfl,
    hr.reports h.decodesBy (cs := [.s1, .s3, .s0]) rfl rfl,
    hr.reports h.decodesBy (cs := [.s2, .s3, .s0]) rfl rfl,
    hr.reports h.decodesBy (cs := [.s1, .s2, .s0]) rfl rfl⟩

/-- Settles O21: either kind of advance has nothing in the accumulator when step 0 is seen. -/
theorem reversedCycleReportsNothing : Obligations.ReversedCycleReportsNothing := by
  refine fun s hs hr => ⟨fun cs hcs hback => ?_, hr.run_acc hs (cs := [.s1, .s2]) rfl,
    hr.reports hs (cs := [.s1, .s2, .s1, .s0]) rfl rfl, hr.reports hs (cs := [.s1, .s0]) rfl rfl⟩
  have hacc : (CycleRegs.rest.after cs).acc = 0 := by
    rcases hback with hrev | hw
    · exact CycleRegs.after_rest_acc_of_reverse_eq hcs hrev
    · exact CycleRegs.after_rest_acc_of_winding_zero hcs hw
  refine ⟨hr.run_acc hs hacc, hr.reports hs ?_ ?_⟩
  · rw [CycleRegs.results_concat, CycleRegs.results_of_s0_notMem hcs, CycleRegs.result_s0, hacc, dirOfAcc_zero,
      List.replicate_succ']
  · rw [CycleRegs.detents_concat_s0 hcs, hacc, dirOfAcc_zero]; rfl

end

end Sys2Proof.Machine
end

section
/-! SUPPORT. Under CYCLE4 the gate is not used (spec/41_poll_cycle4.md R113): not asked, and not read. -/

namespace Sys2Proof.Machine

variable {s t u : State}

/-- Two events with the same fields but for `db` (R66). -/
def SameButDb (e e' : Event) : Prop :=
  rstField e.stim = rstField e'.stim ∧ opField e.stim = opField e'.stim ∧
    bField e.stim = bField e'.stim ∧ aField e.stim = aField e'.stim

/-- R74: a CYCLE4 decoder does not read `db`. -/
theorem SameButDb.decode_cycle4 {e e' : Event} (h : SameButDb e e') (he : isConstruct e = false) :
    decode .cycle4 e = decode .cycle4 e' := by
  obtain ⟨hrst, hop, hb, ha⟩ := h
  have he' : isConstruct e' = false := isConstruct_eq_false_iff.2 (hrst ▸ isConstruct_eq_false_iff.1 he)
  exact decode_congr he he' hop ha hb nofun

/-- Two runs over a next event differ in what it decodes to and in the rest of the run alone. -/
theorem runEvents_cons_congr {e e' : Event} {es es' : List Event}
    (hd : decode s.cfg.strategy e = decode s.cfg.strategy e')
    (hrest : ∀ t, exec (decode s.cfg.strategy e) s = .next t → runEvents es t = runEvents es' t) :
    runEvents (e :: es) s = runEvents (e' :: es') s := by
  rw [runEvents, runEvents, step_present, step_present, ← hd]
  cases hx : exec (decode s.cfg.strategy e) s with
  | next t => simp only [hrest t hx]
  | fault r => rfl
  | refused r => rfl

/-- R27: the strategy is part of the configuration, which CONSTRUCT alone writes. -/
theorem exec_keeps_strategy {i : Instr} (hi : ∀ c, i ≠ .construct c) (hx : exec i s = .next t) :
    t.cfg.strategy = s.cfg.strategy :=
  congrArg Configuration.strategy (exec_sameLifetime hi hx).cfg

/-- R113: `db` changes no run under CYCLE4 inside a lifetime, since no event there changes the strategy. -/
theorem runEvents_eq_of_sameButDb {es es' : List Event} (hσ : s.cfg.strategy = .cycle4)
    (hes : ∀ e ∈ es, isConstruct e = false) (h : List.Forall₂ SameButDb es es') :
    runEvents es s = runEvents es' s := by
  induction h generalizing s with
  | nil => rfl
  | cons hee _ ih =>
    rw [List.forall_mem_cons] at hes
    refine runEvents_cons_congr (by rw [hσ]; exact hee.decode_cycle4 hes.1) fun t hx => ih ?_ hes.2
    exact (exec_keeps_strategy (decode_ne_construct hes.1 _) hx).trans hσ

/-- R35, R113: an operation under CYCLE4 other than CONSTRUCT does not write `settling` and does not request the gate. -/
theorem exec_cycle4_gate {i : Instr} (hi : ∀ c, i ≠ .construct c) (hσ : s.cfg.strategy = .cycle4)
    (hx : exec i s = .next t) : t.settling = s.settling ∧ t.resp.gateReq = false := by
  cases i with
  | construct c => exact absurd rfl (hi c)
  | nop => obtain ⟨-, rfl⟩ := execNop_next.1 hx; exact ⟨rfl, rfl⟩
  | getposDet => obtain ⟨-, rfl⟩ := execGetposDet_next.1 hx; exact ⟨rfl, rfl⟩
  | getposDeg => obtain ⟨-, rfl⟩ := execGetposDeg_next.1 hx; exact ⟨rfl, rfl⟩
  | pollC4 a b =>
    obtain ⟨-, -, rfl⟩ := execPollC4_next.1 hx
    split_ifs
    · rw [State.decodePoll_eq]; exact ⟨rfl, rfl⟩
    · exact ⟨rfl, rfl⟩
  | pollEdge a b db =>
    obtain ⟨-, hσ', -⟩ := execPollEdge_next.1 hx
    simp [hσ] at hσ'

/-- R113, over a run inside a lifetime. -/
theorem runEvents_cycle4_gate {es : List Event} {rs : List Response} (hσ : s.cfg.strategy = .cycle4)
    (hes : ∀ e ∈ es, isConstruct e = false) (h : runEvents es s = .next (u, rs)) :
    u.settling = s.settling ∧ ∀ r ∈ rs, r.gateReq = false := by
  induction es generalizing s rs with
  | nil => cases h; exact ⟨rfl, nofun⟩
  | cons e es ih =>
    obtain ⟨t, rs', hx, hr, rfl⟩ := runEvents_cons_next.1 h
    rw [List.forall_mem_cons] at hes
    have hne : ∀ c, decode s.cfg.strategy e ≠ .construct c := decode_ne_construct hes.1 _
    obtain ⟨hset, hgate⟩ := exec_cycle4_gate hne hσ hx
    obtain ⟨hset', hgates⟩ := ih ((exec_keeps_strategy hne hx).trans hσ) hes.2 hr
    exact ⟨hset'.trans hset, List.forall_mem_cons.2 ⟨hgate, hgates⟩⟩

/-- Settles O25: events that differ in `db` decode alike, no response is made of the window, and no operation requests
the gate. -/
theorem cycle4NeverUsesTheGate : Obligations.Cycle4NeverUsesTheGate := by
  intro es es' s window hσ hes hee
  have hdb : runEvents es s = runEvents es' s := runEvents_eq_of_sameButDb hσ hes hee
  refine ⟨hdb, ?_, fun t rs hr => runEvents_cycle4_gate hσ hes hr⟩
  rw [hdb]
  exact pinsAndWindowChangeNoAnswer s es' s.cfg.pinA s.cfg.pinB window

end Sys2Proof.Machine
end

section
/-! SUPPORT. One POLL.EDGE (spec/42_poll_edge.md): its four kinds of poll and when each is taken (R132 to R138, R144). -/

namespace Sys2Proof.Machine

variable {s t : State} {a b : Level} {db : GateCode}

/-! ### The rows of one POLL.EDGE -/

theorem exec_pollEdge_of_first (hs : s.decodesBy .edge) (hv : s.dfltValid = false) (a b : Level) (db : GateCode) :
    exec (.pollEdge a b db) s = .next (s.firstEdgePoll a b) :=
  execPollEdge_next.2 ⟨hs.1, hs.2, by simp [hv]⟩

/-- A live state under EDGE past its first poll: contact B is compared with a recorded reference. -/
structure State.WatchesEdges (s : State) : Prop where
  decodesBy : s.decodesBy .edge
  dfltValid : s.dfltValid = true

/-- A settle is in progress in a poll that samples contact B at `b`: one carried over, or a transition seen now (R133). -/
def State.Settles (s : State) (b : Level) : Prop := s.settling = true ∨ b ≠ s.ref

theorem State.not_settles_iff : ¬ s.Settles b ↔ s.settling = false ∧ b = s.ref := by
  simp [State.Settles]

theorem State.WatchesEdges.exec_resting (h : s.WatchesEdges) (hset : ¬ s.Settles b) (a : Level) (db : GateCode) :
    exec (.pollEdge a b db) s = .next (s.restingPoll a b) :=
  execPollEdge_next.2 ⟨h.decodesBy.1, h.decodesBy.2, by
    rw [if_pos h.dfltValid, if_neg (mt settleInProgress_iff.1 hset)]⟩

theorem State.WatchesEdges.exec_waiting (h : s.WatchesEdges) (hset : s.Settles b) (hdb : db ≠ .finished) (a : Level) :
    exec (.pollEdge a b db) s = .next (s.waitingPoll a b) :=
  execPollEdge_next.2 ⟨h.decodesBy.1, h.decodesBy.2, by
    rw [if_pos h.dfltValid, if_pos (settleInProgress_iff.2 hset), if_neg (mt gateFinished_iff.1 hdb)]⟩

theorem State.WatchesEdges.exec_settled (h : s.WatchesEdges) (hset : s.Settles b) (a : Level) :
    exec (.pollEdge a b .finished) s = .next (s.settledPoll a b) :=
  execPollEdge_next.2 ⟨h.decodesBy.1, h.decodesBy.2, by
    rw [if_pos h.dfltValid, if_pos (settleInProgress_iff.2 hset), if_pos (gateFinished_iff.2 rfl)]⟩

theorem State.WatchesEdges.restingPoll (h : s.WatchesEdges) (a b : Level) : (s.restingPoll a b).WatchesEdges :=
  ⟨h.decodesBy, h.dfltValid⟩

theorem State.WatchesEdges.waitingPoll (h : s.WatchesEdges) (a b : Level) : (s.waitingPoll a b).WatchesEdges :=
  ⟨h.decodesBy, h.dfltValid⟩

theorem State.WatchesEdges.settledPoll (h : s.WatchesEdges) (a b : Level) : (s.settledPoll a b).WatchesEdges :=
  ⟨h.decodesBy, h.dfltValid⟩

theorem State.firstEdgePoll_watchesEdges (hs : s.decodesBy .edge) (a b : Level) : (s.firstEdgePoll a b).WatchesEdges :=
  ⟨hs, rfl⟩

theorem edgeDir_self (a : Level) : edgeDir a a = .negative := if_pos rfl

theorem edgeDir_of_ne (hab : a ≠ b) : edgeDir a b = .positive := if_neg hab

/-- Settles O28: the first poll makes contact A's level the reference, against which contact B's is a transition. -/
theorem firstEdgePollRecordsContactA : Obligations.FirstEdgePollRecordsContactA := by
  intro a b db s hs hv
  refine ⟨_, exec_pollEdge_of_first hs hv a b db, s.firstEdgePoll_eq a b, fun hab => ?_⟩
  have hset : (s.firstEdgePoll a b).Settles b := .inr (Ne.symm hab)
  exact ⟨_, (State.firstEdgePoll_watchesEdges hs a b).exec_settled hset a, rfl, edgeDir_of_ne hab⟩

/-- Settles O29: the three choices of the poll are the rows, one after the other. -/
theorem pollEdgeAsOneFunction : Obligations.PollEdgeAsOneFunction := by
  intro a b db s hs
  cases hv : s.dfltValid with
  | false =>
    refine ⟨_, exec_pollEdge_of_first hs hv a b db, ?_⟩
    simp [State.firstEdgePoll, State.edgeView, pollResponse]
  | true =>
    have h : s.WatchesEdges := ⟨hs, hv⟩
    by_cases hset : s.Settles b
    · have hmoved : s.settling = false → b ≠ s.ref := fun hn hb => State.not_settles_iff.2 ⟨hn, hb⟩ hset
      by_cases hdb : db = .finished
      · subst hdb
        refine ⟨_, h.exec_settled hset a, ⟨rfl, rfl⟩, nofun, fun _ hn hb => absurd hb (hmoved hn),
          fun _ _ hn => absurd rfl hn, fun _ _ _ hab => ?_, fun _ _ _ hab => ?_,
          rfl, rfl, rfl, rfl, rfl, rfl, rfl, rfl, rfl⟩
        · simp [State.settledPoll, State.edgeView, pollResponse, edgeDir_of_ne hab, Dir.dval, hv]
        · simp [State.settledPoll, State.edgeView, pollResponse, hab, edgeDir_self, Dir.dval, hv, sub_eq_add_neg]
      · refine ⟨_, h.exec_waiting hset hdb a, ⟨rfl, rfl⟩, nofun, fun _ hn hb => absurd hb (hmoved hn),
          fun _ _ _ => ?_, fun _ _ hf => absurd hf hdb, fun _ _ hf => absurd hf hdb,
          rfl, rfl, rfl, rfl, rfl, rfl, rfl, rfl, rfl⟩
        simp [State.waitingPoll, State.edgeView, pollResponse, hv]
    · refine ⟨_, h.exec_resting hset a db, ⟨rfl, rfl⟩, nofun, fun _ _ _ => ?_, fun _ hy => absurd hy hset,
        fun _ hy => absurd hy hset, fun _ hy => absurd hy hset, rfl, rfl, rfl, rfl, rfl, rfl, rfl, rfl, rfl⟩
      simp [State.restingPoll, State.edgeView, pollResponse, hv]

end Sys2Proof.Machine
end

section
/-! SUPPORT. POLL.EDGE over a stream of events (spec/42_poll_edge.md): while no settle finishes nothing advances (R140),
and a settle of any length gives one result (R134, R143). -/

namespace Sys2Proof

theorem GateCode.ofCode_eq_finished_iff {w : BitVec 2} : GateCode.ofCode w = .finished ↔ w = 2#2 := by
  decide +revert

end Sys2Proof

namespace Sys2Proof.Machine

variable {s t : State}

/-! ### Streams in which no settle finishes -/

/-- Once a default level is recorded, no operation but CONSTRUCT drops it (R29). -/
theorem exec_keeps_dfltValid {i : Instr} (hi : ∀ c, i ≠ .construct c) (hv : s.dfltValid = true)
    (hx : exec i s = .next t) : t.dfltValid = true := by
  cases i with
  | construct c => exact absurd rfl (hi c)
  | nop => obtain ⟨-, rfl⟩ := execNop_next.1 hx; exact hv
  | getposDet => obtain ⟨-, rfl⟩ := execGetposDet_next.1 hx; exact hv
  | getposDeg => obtain ⟨-, rfl⟩ := execGetposDeg_next.1 hx; exact hv
  | pollC4 a b => exact congrArg State.dfltValid (execPollC4_frame hx)
  | pollEdge a b db => exact congrArg State.dfltValid (execPollEdge_frame hx)

theorem State.WatchesEdges.of_exec {i : Instr} (h : s.WatchesEdges) (hi : ∀ c, i ≠ .construct c)
    (hx : exec i s = .next t) : t.WatchesEdges :=
  ⟨(exec_sameLifetime hi hx).decodesBy h.decodesBy, exec_keeps_dfltValid hi h.dfltValid hx⟩

/-- R140, of one event: unless it is a poll that calls the gate and is told `Finished`, it advances nothing and reports
nothing. -/
theorem State.WatchesEdges.exec_of_not_finished {e : Event} (h : s.WatchesEdges) (he : isConstruct e = false)
    (hx : exec (decode s.cfg.strategy e) s = .next t) (hfin : ¬ (t.resp.gateReq = true ∧ dbField e.stim = 2#2)) :
    t.ref = s.ref ∧ t.position = s.position ∧ t.resp.dir = .neutral := by
  rw [h.decodesBy.2] at hx
  rcases decode_cases he .edge with ⟨-, hd⟩ | ⟨-, hσ, -⟩ | ⟨-, -, hd⟩ | ⟨-, hd⟩ | ⟨-, hd⟩
  · rw [hd] at hx; obtain ⟨-, rfl⟩ := execNop_next.1 hx; exact ⟨rfl, rfl, rfl⟩
  · cases hσ
  · rw [hd] at hx
    rw [← GateCode.ofCode_eq_finished_iff] at hfin
    obtain ⟨href, hpos⟩ := (execPollEdge_writes h.dfltValid hx).1 hfin
    exact ⟨href, hpos, not_ne_iff.1 (mt (execPollEdge_position hx).2.1 hfin)⟩
  · rw [hd] at hx; obtain ⟨-, rfl⟩ := execGetposDet_next.1 hx; exact ⟨rfl, rfl, rfl⟩
  · rw [hd] at hx; obtain ⟨-, rfl⟩ := execGetposDeg_next.1 hx; exact ⟨rfl, rfl, rfl⟩

/-- Settles O31: by induction on the stream, which stays past the first poll under EDGE. -/
theorem nothingAdvancesBetweenFinished : Obligations.NothingAdvancesBetweenFinished := by
  intro es s t rs hs hv hes hr hfin
  induction es generalizing s rs with
  | nil => cases hr; exact ⟨rfl, rfl, nofun⟩
  | cons e es ih =>
    obtain ⟨u, rs', hx, hr', rfl⟩ := runEvents_cons_next.1 hr
    rw [List.forall_mem_cons] at hes
    rw [List.zip_cons_cons, List.forall_mem_cons] at hfin
    have h : s.WatchesEdges := ⟨hs, hv⟩
    have hu : u.WatchesEdges := h.of_exec (decode_ne_construct hes.1 _) hx
    obtain ⟨href, hpos, hdir⟩ := h.exec_of_not_finished hes.1 hx hfin.1
    obtain ⟨href', hpos', hdirs⟩ := ih u rs' hu.decodesBy hu.dfltValid hes.2 hr' hfin.2
    exact ⟨href'.trans href, hpos'.trans hpos, List.forall_mem_cons.2 ⟨hdir, hdirs⟩⟩

/-! ### A settle -/

@[simp] theorem isConstruct_pollEvent (a b : Level) (db : GateCode) : isConstruct (pollEvent a b db) = false :=
  isConstruct_stimWord ..

theorem decode_pollEvent_edge (hs : s.decodesBy .edge) (a b : Level) (db : GateCode) :
    decode s.cfg.strategy (pollEvent a b db) = .pollEdge a b db := by
  rw [hs.2]; exact decode_encode rfl

/-- Any number of polls that are not told `Finished`, while a settle is in progress: each calls the gate and reports
nothing, and the settle goes on (R134). -/
theorem State.WatchesEdges.runEvents_waiting (h : s.WatchesEdges) (hset : s.settling = true) (ws : List PollInput)
    (hws : ∀ w ∈ ws, w.db ≠ .finished) :
    ∃ t, runEvents (ws.map PollInput.event) s = .next (t, List.replicate ws.length (pollResponse .neutral true)) ∧
      t.WatchesEdges ∧ t.settling = true ∧ t.position = s.position := by
  induction ws generalizing s with
  | nil => exact ⟨s, rfl, h, hset, rfl⟩
  | cons w ws ih =>
    rw [List.forall_mem_cons] at hws
    obtain ⟨t, hr, ht, hset', hpos⟩ := ih (h.waitingPoll w.a w.b) rfl hws.2
    refine ⟨t, runEvents_cons_next.2 ⟨_, _, ?_, hr, rfl⟩, ht, hset', hpos⟩
    rw [PollInput.event, decode_pollEvent_edge h.decodesBy]
    exact h.exec_waiting (.inl hset) hws.1 w.a

/-- Settles O30: by the kind of poll; and a settle goes on through any number of waiting ones. -/
theorem gateIsCalledExactlyWhileSettling : Obligations.GateIsCalledExactlyWhileSettling := by
  refine ⟨fun a b db s t hx => ?_, fun n a b s hs hv hset => ?_⟩
  · obtain ⟨hlive, hσ, -⟩ := execPollEdge_next.1 hx
    cases hv : s.dfltValid with
    | false =>
      obtain rfl : t = s.firstEdgePoll a b := execPollEdge_eq_firstEdgePoll hv hx
      exact ⟨iff_of_false nofun nofun, nofun, nofun, fun _ => ⟨rfl, exec_pollEdge_of_first ⟨hlive, hσ⟩ hv a b⟩⟩
    | true =>
      have h : s.WatchesEdges := ⟨⟨hlive, hσ⟩, hv⟩
      by_cases hset : s.Settles b
      · by_cases hdb : db = .finished
        · subst hdb
          cases (h.exec_settled hset a).symm.trans hx
          exact ⟨iff_of_true rfl ⟨rfl, hset⟩, fun _ => rfl, fun _ hn => absurd rfl hn, nofun⟩
        · cases (h.exec_waiting hset hdb a).symm.trans hx
          refine ⟨iff_of_true rfl ⟨rfl, hset⟩, fun _ => rfl, fun _ _ => ⟨rfl, ?_⟩, nofun⟩
          simp [State.waitingPoll_eq, hv]
      · cases (h.exec_resting hset a db).symm.trans hx
        exact ⟨iff_of_false nofun fun hy => hset hy.2, nofun, nofun, fun _ => ⟨rfl, h.exec_resting hset a⟩⟩
  · obtain ⟨t, hr, -, hset', -⟩ := State.WatchesEdges.runEvents_waiting ⟨hs, hv⟩ hset
      (List.replicate n ⟨a, b, .ongoing⟩) fun w hw => by simp [List.eq_of_mem_replicate hw]
    rw [List.map_replicate] at hr
    refine ⟨t, _, hr, hset', fun r hmem => ?_⟩
    rw [List.eq_of_mem_replicate hmem]
    exact ⟨rfl, rfl⟩

/-- Settles O32: the poll that sees the transition waits and leaves a settle in progress, through which the others wait;
the last one settles, and contact B's settled level is then the reference. -/
theorem oneResultPerSettledEdge : Obligations.OneResultPerSettledEdge := by
  intro s p q ws hs hv _ hp hpdb hws hq
  have h : s.WatchesEdges := ⟨hs, hv⟩
  obtain ⟨t, hwait, ht, hset, hpos⟩ := (h.waitingPoll p.a p.b).runEvents_waiting rfl ws hws
  have hfirst : exec (decode s.cfg.strategy p.event) s = .next (s.waitingPoll p.a p.b) := by
    rw [PollInput.event, decode_pollEvent_edge hs]
    exact h.exec_waiting (.inr hp) hpdb p.a
  have hlast : exec (decode t.cfg.strategy q.event) t = .next (t.settledPoll q.a q.b) := by
    rw [PollInput.event, decode_pollEvent_edge ht.decodesBy, hq]
    exact ht.exec_settled (.inl hset) q.a
  refine ⟨t.settledPoll q.a q.b,
    List.replicate (ws.length + 1) (pollResponse .neutral true) ++ [pollResponse (edgeDir q.a q.b) true],
    runEvents_append_next.2 ⟨t, _, _, runEvents_cons_next.2 ⟨_, _, hfirst, hwait, rfl⟩,
      runEvents_cons_next.2 ⟨_, _, hlast, rfl, rfl⟩, rfl⟩, fun r hmem => ?_, ?_, rfl, rfl, ?_, fun a db => ?_⟩
  · rcases List.mem_append.1 hmem with hr | hr
    · rw [List.eq_of_mem_replicate hr]; rfl
    · rw [List.mem_singleton.1 hr]; rfl
  · rw [List.map_append, List.map_replicate]; rfl
  · exact congrArg (· + (edgeDir q.a q.b).dval) hpos
  · have hrest : ¬ (t.settledPoll q.a q.b).Settles q.b := State.not_settles_iff.2 ⟨rfl, rfl⟩
    exact ⟨_, (ht.settledPoll q.a q.b).exec_resting hrest a db, rfl, rfl⟩

end Sys2Proof.Machine
end

section
/-! SUPPORT. One gray cycle under either strategy (spec/42_poll_edge.md R141). -/

namespace Sys2Proof

theorem Level.inv_ne (l : Level) : l.inv ≠ l := by
  cases l <;> decide

end Sys2Proof

namespace Sys2Proof.Machine

variable {s t : State} {e : Event} {es : List Event} {d : Dir} {ds : List Dir} {a b r : Level}
  {db : GateCode}

/-! ### Under EDGE -/

/-- A run reports what its first event reports and then what the rest does, and the position moves by their weights. -/
theorem State.reports_cons (hx : exec (decode s.cfg.strategy e) s = .next t) (hdir : t.resp.dir = d)
    (hpos : t.position = s.position + d.dval) (h : t.reports es ds (ds.map Dir.dval).sum) :
    s.reports (e :: es) (d :: ds) ((d :: ds).map Dir.dval).sum := by
  obtain ⟨u, rs, hr, hds, hu⟩ := h
  refine ⟨u, t.resp :: rs, runEvents_cons_next.2 ⟨t, rs, hx, hr, rfl⟩, by rw [List.map_cons, hdir, hds], ?_⟩
  rw [hu, hpos, List.map_cons, List.sum_cons, add_assoc]

theorem State.reports_nil (s : State) : s.reports [] [] 0 := ⟨s, [], rfl, rfl, (add_zero _).symm⟩

/-- Under EDGE, no settle in progress and contact B compared with the recorded level `r`. -/
structure State.RestsAt (r : Level) (s : State) : Prop where
  watchesEdges : s.WatchesEdges
  settling : s.settling = false
  ref : s.ref = r

/-- A poll with contact B at the reference reports nothing (R138). -/
theorem State.RestsAt.reports_resting (h : s.RestsAt r)
    (hrest : ∀ t : State, t.RestsAt r → t.reports es ds (ds.map Dir.dval).sum) :
    s.reports (pollEvent a r db :: es) (.neutral :: ds) ((Dir.neutral :: ds).map Dir.dval).sum := by
  refine State.reports_cons (t := s.restingPoll a r) ?_ rfl (add_zero _).symm
    (hrest _ ⟨h.watchesEdges.restingPoll a r, rfl, h.ref⟩)
  rw [decode_pollEvent_edge h.watchesEdges.decodesBy]
  exact h.watchesEdges.exec_resting (State.not_settles_iff.2 ⟨h.settling, h.ref.symm⟩) a db

/-- A poll that sees contact B move and is told `Finished` reports the edge, and contact B's level is the reference
(R136, R137). -/
theorem State.RestsAt.reports_settled (h : s.RestsAt r) (hb : b ≠ r) (hd : edgeDir a b = d)
    (hrest : ∀ t : State, t.RestsAt b → t.reports es ds (ds.map Dir.dval).sum) :
    s.reports (pollEvent a b .finished :: es) (d :: ds) ((d :: ds).map Dir.dval).sum := by
  subst hd
  refine State.reports_cons (t := s.settledPoll a b) ?_ rfl rfl
    (hrest _ ⟨h.watchesEdges.settledPoll a b, rfl, rfl⟩)
  rw [decode_pollEvent_edge h.watchesEdges.decodesBy]
  exact h.watchesEdges.exec_settled (.inr (h.ref ▸ hb)) a

/-- With contact A leading, both contacts are equal at each edge of contact B. -/
theorem State.RestsAt.reports_contactA_leading (h : s.RestsAt r) :
    s.reports [pollEvent r.inv r .notStarted, pollEvent r.inv r.inv .finished, pollEvent r r.inv .notStarted,
      pollEvent r r .finished] [.neutral, .negative, .neutral, .negative] (-2) :=
  h.reports_resting fun _ h => h.reports_settled r.inv_ne (edgeDir_self _) fun _ h =>
    h.reports_resting fun _ h => h.reports_settled r.inv_ne.symm (edgeDir_self _) fun t _ => t.reports_nil

/-- With contact B leading, the contacts differ at each edge of contact B. -/
theorem State.RestsAt.reports_contactB_leading (h : s.RestsAt r) :
    s.reports [pollEvent r r.inv .finished, pollEvent r.inv r.inv .notStarted, pollEvent r.inv r .finished,
      pollEvent r r .notStarted] [.positive, .neutral, .positive, .neutral] 2 :=
  h.reports_settled r.inv_ne (edgeDir_of_ne r.inv_ne.symm) fun _ h => h.reports_resting fun _ h =>
    h.reports_settled r.inv_ne.symm (edgeDir_of_ne r.inv_ne) fun _ h => h.reports_resting fun t _ => t.reports_nil

/-! ### Under CYCLE4 -/

/-- The poll that puts a step's levels on the contacts, with a gate answer. -/
def stepPollEvent (r : Level) (p : StepCode × GateCode) : Event :=
  pollEvent (pollStepLevels r p.1).1 (pollStepLevels r p.1).2 p.2

/-- It is a POLLSTEP but for `db` (R76). -/
theorem sameButDb_stepPollEvent (r : Level) (p : StepCode × GateCode) :
    SameButDb (stepPollEvent r p) (pollStepEvent r p.1) := by
  simp [SameButDb, stepPollEvent, pollEvent, encode, pollStepEvent, assemble_pollStep]

/-- From rest under CYCLE4, what a run of polls at the levels of steps reports, whatever the gate would answer (R113). -/
theorem State.atRest.reports_stepPolls (hr : s.atRest) (hs : s.decodesBy .cycle4) (ps : List (StepCode × GateCode))
    {n : Int} (hds : CycleRegs.rest.results (ps.map Prod.fst) = ds)
    (hn : CycleRegs.rest.detents (ps.map Prod.fst) = n) : s.reports (ps.map (stepPollEvent s.ref)) ds n := by
  have hpoll : ∀ e ∈ ps.map (stepPollEvent s.ref), isConstruct e = false :=
    List.forall_mem_map.2 fun _ _ => isConstruct_pollEvent ..
  have hsame : List.Forall₂ SameButDb (ps.map (stepPollEvent s.ref))
      ((ps.map Prod.fst).map (pollStepEvent s.ref)) := by
    simp [sameButDb_stepPollEvent]
  rw [State.reports, runEvents_eq_of_sameButDb hs.2 hpoll hsame]
  exact hr.reports hs hds hn

/-- Settles O33: under EDGE poll by poll, and under CYCLE4 as the cycles of steps 1, 2, 3, 0 and 3, 2, 1, 0. -/
theorem edgeAndCycle4DifferInCountAndSign : Obligations.EdgeAndCycle4DifferInCountAndSign := by
  refine fun s hv => ⟨fun hs hset => ?_, fun hs hr => ?_⟩
  · have h : s.RestsAt s.ref := ⟨⟨hs, hv⟩, hset, rfl⟩
    exact ⟨h.reports_contactA_leading, h.reports_contactB_leading⟩
  · exact ⟨hr.reports_stepPolls hs [(.s1, .notStarted), (.s2, .finished), (.s3, .notStarted), (.s0, .finished)] rfl rfl,
      hr.reports_stepPolls hs [(.s3, .finished), (.s2, .notStarted), (.s1, .finished), (.s0, .notStarted)] rfl rfl⟩

end Sys2Proof.Machine
end

section
/-! SUPPORT. GETPOS (spec/43_getposition.md): what a read-out answers (R151, R152), that it changes nothing (R154), and
that the position it reads is the sum of what was reported (R155). -/

namespace Sys2Proof.Machine

variable {s t u : State} {es es' : List Event} {rs : List Response}

/-! ### What a read-out answers -/

/-- Settles O34: on a live instance a read-out in detents completes with the position. -/
theorem getposDetAnswersThePosition : Obligations.GetposDetAnswersThePosition :=
  fun _ hlive => execGetposDet_next.2 ⟨hlive, rfl⟩

/-- Settles O35: so it does in degrees with the product, and the invariant says what the stored scale factor is. -/
theorem getposDegAnswersTheProduct : Obligations.GetposDegAnswersTheProduct := by
  refine fun s hlive => ⟨execGetposDeg_next.2 ⟨hlive, rfl⟩, fun hinv => ?_⟩
  obtain ⟨-, hscale⟩ : s.configInv := (hinv hlive).1
  rw [hscale, scaleOf]

/-! ### The output side is no state -/

theorem State.sameElements_refl (s : State) : s.sameElements s := rfl

theorem State.sameElements_answer (s : State) (r : Response) (cs : List Call) : s.sameElements (s.answer r cs) := rfl

theorem State.sameElements.symm (h : s.sameElements t) : t.sameElements s := by
  rw [h]; rfl

theorem State.sameElements.trans (h : s.sameElements t) (h' : t.sameElements u) : s.sameElements u := by
  rw [h', h]; rfl

theorem State.sameElements.live (h : s.sameElements t) (hlive : s.live = true) : t.live = true := by
  rw [h]; exact hlive

theorem State.decodePoll_answer (s : State) (r : Response) (cs : List Call) (a b : Level) :
    (s.answer r cs).decodePoll a b = s.decodePoll a b := by
  rw [State.decodePoll_eq, State.decodePoll_eq]; rfl

/-- Every operation writes the output side and none reads it (R70). -/
theorem exec_answer (i : Instr) (s : State) (r : Response) (cs : List Call) : exec i (s.answer r cs) = exec i s := by
  cases i with
  | construct c => rfl
  | nop => rfl
  | getposDet => rfl
  | getposDeg => rfl
  | pollEdge a b db => rfl
  | pollC4 a b =>
    exact congrArg (fun t => s.ifStrategy .cycle4 (if s.dfltValid then t else s.firstPoll a b))
      (s.decodePoll_answer r cs a b)

theorem State.sameElements.exec_eq (h : s.sameElements t) (i : Instr) : exec i t = exec i s := by
  rw [h]; exact exec_answer ..

/-- States with the same elements complete the same runs, with the same responses and the same elements at the end. -/
theorem State.sameElements.runEvents_next (h : s.sameElements t) (hr : runEvents es s = .next (u, rs)) :
    ∃ v, runEvents es t = .next (v, rs) ∧ u.sameElements v := by
  cases es with
  | nil => cases hr; exact ⟨t, rfl, h⟩
  | cons e es =>
    obtain ⟨m, rs', hx, hr', rfl⟩ := runEvents_cons_next.1 hr
    have hσ : t.cfg.strategy = s.cfg.strategy := by rw [h]; rfl
    exact ⟨u, runEvents_cons_next.2 ⟨m, rs', by rw [hσ, h.exec_eq, hx], hr', rfl⟩, u.sameElements_answer ..⟩

/-! ### Read-outs and NOPs in a run -/

/-- R91, R154: on a live instance an event that is neither a CONSTRUCT nor a POLL completes and writes the output side
alone. -/
theorem exec_of_not_poll {e : Event} (he : isConstruct e = false) (hop : opField e.stim ≠ 0b01#2)
    (hlive : s.live = true) (σ : Strategy) : ∃ r, exec (decode σ e) s = .next (s.answer r []) := by
  rcases decode_cases he σ with ⟨-, hd⟩ | ⟨hpoll, -⟩ | ⟨hpoll, -⟩ | ⟨-, hd⟩ | ⟨-, hd⟩
  · rw [hd]; exact ⟨_, execNop_next.2 ⟨hlive, rfl⟩⟩
  · exact absurd hpoll hop
  · exact absurd hpoll hop
  · rw [hd]; exact ⟨_, execGetposDet_next.2 ⟨hlive, rfl⟩⟩
  · rw [hd]; exact ⟨_, execGetposDeg_next.2 ⟨hlive, rfl⟩⟩

theorem exec_not_poll_sameElements {e : Event} (he : isConstruct e = false) (hop : opField e.stim ≠ 0b01#2)
    (hlive : s.live = true) {σ : Strategy} (hx : exec (decode σ e) s = .next t) : s.sameElements t := by
  obtain ⟨r, hr⟩ := exec_of_not_poll he hop hlive σ
  cases hr.symm.trans hx
  exact s.sameElements_answer ..

/-- R187: no operation ends a lifetime without beginning another. -/
theorem exec_keeps_live {i : Instr} (hlive : s.live = true) (hx : exec i s = .next t) : t.live = true := by
  by_cases hi : ∀ c, i ≠ .construct c
  · exact (exec_sameLifetime hi hx).live.trans hlive
  · obtain ⟨c, rfl⟩ : ∃ c, i = .construct c := by simpa using hi
    obtain ⟨-, rfl⟩ := execConstruct_next.1 hx
    rfl

theorem runEvents_keeps_live (hlive : s.live = true) (hr : runEvents es s = .next (u, rs)) : u.live = true :=
  runEvents_keeps (P := (·.live = true)) (Q := fun _ => True) (fun _ _ _ _ h hx => exec_keeps_live h hx)
    (fun _ _ => trivial) hlive hr

/-- Every event has one response (R70). -/
theorem runEvents_length (hr : runEvents es s = .next (u, rs)) : rs.length = es.length := by
  induction es generalizing s rs with
  | nil => cases hr; rfl
  | cons e es ih =>
    obtain ⟨t, rs', -, hr', rfl⟩ := runEvents_cons_next.1 hr
    rw [List.length_cons, List.length_cons, ih hr']

/-- R154, for NOPs and read-outs alone: the run leaves every element as it was. -/
theorem runEvents_not_poll_sameElements (hlive : s.live = true)
    (hes : ∀ e ∈ es, isConstruct e = false ∧ opField e.stim ≠ 0b01#2) (hr : runEvents es s = .next (t, rs)) :
    s.sameElements t :=
  runEvents_keeps (P := s.sameElements) (Q := fun e => isConstruct e = false ∧ opField e.stim ≠ 0b01#2)
    (fun _ _ _ he hs hx => hs.trans (exec_not_poll_sameElements he.1 he.2 (hs.live hlive) hx)) hes
    s.sameElements_refl hr

/-- R154: an event that is neither a CONSTRUCT nor a POLL, inserted into a run, adds its own response and changes no
other one. -/
theorem runEvents_insert_not_poll {g : Event} (hg : isConstruct g = false) (hop : opField g.stim ≠ 0b01#2)
    (hlive : s.live = true) (hr : runEvents (es ++ es') s = .next (t, rs)) :
    ∃ r t', runEvents (es ++ g :: es') s = .next (t', rs.take es.length ++ r :: rs.drop es.length) ∧
      t.sameElements t' := by
  obtain ⟨m, rs₁, rs₂, h₁, h₂, rfl⟩ := runEvents_append_next.1 hr
  obtain ⟨r, hx⟩ := exec_of_not_poll hg hop (runEvents_keeps_live hlive h₁) m.cfg.strategy
  obtain ⟨t', h₂', ht⟩ := (m.sameElements_answer r []).runEvents_next h₂
  refine ⟨r, t', ?_, ht⟩
  rw [List.take_left' (runEvents_length h₁), List.drop_left' (runEvents_length h₁)]
  exact runEvents_append_next.2 ⟨m, rs₁, _, h₁, runEvents_cons_next.2 ⟨_, rs₂, hx, h₂', rfl⟩, rfl⟩

/-- R154: with such an event removed, the run still completes. -/
theorem runEvents_remove_not_poll {g : Event} (hg : isConstruct g = false) (hop : opField g.stim ≠ 0b01#2)
    (hlive : s.live = true) (hr : runEvents (es ++ g :: es') s = .next (t, rs)) :
    ∃ u rs', runEvents (es ++ es') s = .next (u, rs') := by
  obtain ⟨m, rs₁, _, h₁, h₂, -⟩ := runEvents_append_next.1 hr
  obtain ⟨m', rs₂, hx, h₂', -⟩ := runEvents_cons_next.1 h₂
  have hm : m.sameElements m' := exec_not_poll_sameElements hg hop (runEvents_keeps_live hlive h₁) hx
  obtain ⟨u, hu, -⟩ := hm.symm.runEvents_next h₂'
  exact ⟨u, rs₁ ++ rs₂, runEvents_append_next.2 ⟨m, rs₁, rs₂, h₁, hu, rfl⟩⟩

/-- Settles O37: a read-out is neither a CONSTRUCT nor a POLL, so it writes the output side alone, which no operation
reads. -/
theorem getposIsPure : Obligations.GetposIsPure := by
  refine ⟨fun es s t rs hlive hes hr => ?_, fun es es' g s hlive hg hread => ?_⟩
  · have hst : s.sameElements t := runEvents_not_poll_sameElements hlive hes hr
    refine ⟨hst, fun i u v _ hu hv => ?_⟩
    rw [hst.exec_eq, hu] at hv
    cases hv; rfl
  · have hop : opField g.stim ≠ 0b01#2 := by
      rcases hread with h | h <;> rw [h] <;> decide
    exact ⟨fun t rs => runEvents_insert_not_poll hg hop hlive, fun t rs => runEvents_remove_not_poll hg hop hlive⟩

/-! ### The position is the sum of the reports -/

@[simp] theorem dirSum_cons (r : Response) (rs : List Response) : dirSum (r :: rs) = r.dir.dval + dirSum rs :=
  List.sum_cons

/-- Every operation but CONSTRUCT moves the position by the weight of the direction it answers, which is 0 of NOP and the
read-outs. -/
theorem exec_position {i : Instr} (hi : ∀ c, i ≠ .construct c) (hx : exec i s = .next t) :
    t.position = s.position + t.resp.dir.dval := by
  cases i with
  | construct c => exact absurd rfl (hi c)
  | nop => obtain ⟨-, rfl⟩ := execNop_next.1 hx; exact (add_zero _).symm
  | getposDet => obtain ⟨-, rfl⟩ := execGetposDet_next.1 hx; exact (add_zero _).symm
  | getposDeg => obtain ⟨-, rfl⟩ := execGetposDeg_next.1 hx; exact (add_zero _).symm
  | pollC4 a b => exact (execPollC4_position hx).1
  | pollEdge a b db => exact (execPollEdge_position hx).1

/-- R40 (iii): so does a run inside a lifetime, by the sum of the weights. -/
theorem runEvents_position (hes : ∀ e ∈ es, isConstruct e = false) (hr : runEvents es s = .next (u, rs)) :
    u.position = s.position + dirSum rs := by
  induction es generalizing s rs with
  | nil => cases hr; exact (add_zero _).symm
  | cons e es ih =>
    obtain ⟨t, rs', hx, hr', rfl⟩ := runEvents_cons_next.1 hr
    rw [List.forall_mem_cons] at hes
    rw [ih hes.2 hr', exec_position (decode_ne_construct hes.1 _) hx, dirSum_cons, add_assoc]

/-- Settles O38: a CONSTRUCT leaves position 0 and answers `Neutral`, and from there the run adds up. -/
theorem positionIsTheSumOfReports : Obligations.PositionIsTheSumOfReports := by
  intro e es s t rs he hes hr
  obtain ⟨-, hlive, -⟩ := runEvents_construct_lifetime he hes hr
  obtain ⟨m, rs', hx, hr', rfl⟩ := runEvents_cons_next.1 hr
  rw [decode_of_isConstruct he] at hx
  obtain ⟨_, rfl⟩ := execConstruct_next.1 hx
  have hpos : t.position = dirSum (Response.idle :: rs') := by
    rw [runEvents_position hes hr', dirSum_cons]; rfl
  exact ⟨hpos, _, execGetposDet_next.2 ⟨hlive, rfl⟩, congrArg Val.int hpos⟩

end Sys2Proof.Machine
end

section
/-! SUPPORT. No operation fails (spec/60_exceptions.md R165): what an operation and a step can be refused for, and that
an admitted stream runs to its end (R181). -/

namespace Sys2Proof.Machine

variable {s : State} {r : Refusal}

/-! ### The refusals -/

/-- Everything an operation can be refused for: the detents of a CONSTRUCT (R92), that no instance exists (R187), or the
strategy of a POLL (R167). -/
theorem exec_refused {i : Instr} (h : exec i s = .refused r) :
    (∃ c, i = .construct c ∧ c.wellFormed = false ∧ r = .zeroDetents) ∨
    (s.live = false ∧ r = .noneConstructed) ∨
    (i.under s.cfg.strategy = false ∧ r = .strategyNotSelected) := by
  cases i with
  | construct c => exact .inl ⟨c, rfl, execConstruct_refused.1 h⟩
  | nop => exact .inr (.inl (State.ifLive_refused.1 h))
  | getposDet => exact .inr (.inl (State.ifLive_refused.1 h))
  | getposDeg => exact .inr (.inl (State.ifLive_refused.1 h))
  | pollC4 a b =>
    exact .inr ((State.ifStrategy_refused.1 h).imp_right fun ⟨_, hσ, hr⟩ => ⟨beq_eq_false_iff_ne.2 hσ, hr⟩)
  | pollEdge a b db =>
    exact .inr ((State.ifStrategy_refused.1 h).imp_right fun ⟨_, hσ, hr⟩ => ⟨beq_eq_false_iff_ne.2 hσ, hr⟩)

/-- Decoded, an event is refused for the first two of these alone, since no POLL the decoder gives is one of the strategy
not selected (R67). -/
theorem exec_decode_refused {e : Event} (h : exec (decode s.cfg.strategy e) s = .refused r) :
    (r = .noneConstructed ∧ s.live = false) ∨
    (r = .zeroDetents ∧ isConstruct e = true ∧ e.cfg.wellFormed = false) := by
  obtain ⟨c, hi, hwf, hr⟩ | ⟨hlive, hr⟩ | ⟨hunder, -⟩ := exec_refused h
  · have he : isConstruct e = true := Bool.eq_true_of_not_eq_false fun he => decode_ne_construct he _ c hi
    have hc : e.cfg = c := Instr.construct.inj ((decode_of_isConstruct he _).symm.trans hi)
    exact .inr ⟨hr, he, hc ▸ hwf⟩
  · exact .inl ⟨hr, hlive⟩
  · exact absurd (decode_under s.cfg.strategy e) (Bool.eq_false_iff.1 hunder)

/-- A step is refused for what its event is refused for; without an event it completes (R180). -/
theorem step_refused (h : step s = .refused r) :
    (r = .noneConstructed ∧ s.live = false) ∨
    (r = .zeroDetents ∧ ∃ e rest, s.inbox = e :: rest ∧ isConstruct e = true ∧ e.cfg.wellFormed = false) := by
  rcases hbox : s.inbox with _ | ⟨e, rest⟩
  · rw [step_of_inbox_nil hbox] at h
    cases h
  · rw [step_of_inbox_cons hbox] at h
    obtain hnone | ⟨hr, he⟩ := exec_decode_refused (s := { s with inbox := rest }) h
    · exact .inl hnone
    · exact .inr ⟨hr, e, rest, rfl, he⟩

/-! ### An admitted stream on a live instance -/

/-- A CONSTRUCT that the host may present has its detents (R92). -/
theorem wellFormed_of_admitted {e : Event} (he : admitted e = true) (hc : isConstruct e = true) :
    e.cfg.wellFormed = true := by
  simpa [admitted, hc] using he

/-- R165, R181: neither cause is there on a live instance that is presented an admitted event. -/
theorem exec_decode_completes {e : Event} (hlive : s.live = true) (he : admitted e = true) :
    ∃ t, exec (decode s.cfg.strategy e) s = .next t := by
  cases hx : exec (decode s.cfg.strategy e) s with
  | next t => exact ⟨t, rfl⟩
  | fault f => cases f
  | refused r =>
    obtain ⟨-, hdead⟩ | ⟨-, hc, hbad⟩ := exec_decode_refused hx
    · exact absurd hlive (Bool.eq_false_iff.1 hdead)
    · exact absurd (wellFormed_of_admitted he hc) (Bool.eq_false_iff.1 hbad)

/-- So the run over admitted events completes, as each of them leaves the instance live. -/
theorem runEvents_completes {es : List Event} (hlive : s.live = true) (hes : ∀ e ∈ es, admitted e = true) :
    ∃ u rs, runEvents es s = .next (u, rs) := by
  induction es generalizing s with
  | nil => exact ⟨s, [], rfl⟩
  | cons e es ih =>
    rw [List.forall_mem_cons] at hes
    obtain ⟨t, hx⟩ := exec_decode_completes hlive hes.1
    obtain ⟨u, rs, hr⟩ := ih (exec_keeps_live hlive hx) hes.2
    exact ⟨u, t.resp :: rs, runEvents_cons_next.2 ⟨t, rs, hx, hr, rfl⟩⟩

/-- Settles O45: a live instance with admitted events meets neither of the two causes a decoded event can be refused for,
event by event. -/
theorem noOperationFails : Obligations.NoOperationFails := by
  refine ⟨fun es s hlive hes => ?_, fun s r h => step_refused h⟩
  obtain ⟨t, rs, hr⟩ := runEvents_completes hlive hes
  exact ⟨t, rs, hr, runEvents_length hr, runEvents_keeps_live hlive hr⟩

end Sys2Proof.Machine
end

section
/-! SUPPORT. Any trace inside a lifetime under CYCLE4 (spec/70_reset_and_hazards.md R190, R192): whatever its events
are, the run does to the cycle registers what the steps of its decoding polls do. -/

namespace Sys2Proof.Machine

variable {s t u : State} {r : Level} {e : Event} {cs ds : List StepCode}

/-! ### Sequences of steps, on the cycle registers -/

namespace CycleRegs

theorem after_append (k : CycleRegs) (cs ds : List StepCode) : k.after (cs ++ ds) = (k.after cs).after ds :=
  List.foldl_append ..

theorem detents_append (k : CycleRegs) (cs ds : List StepCode) :
    k.detents (cs ++ ds) = k.detents cs + (k.after cs).detents ds := by
  induction cs generalizing k with
  | nil => simp
  | cons c cs ih => simp [ih, add_assoc]

/-- R112: whatever was seen before, step 0 leaves the registers at rest. -/
theorem after_eq_rest_of_getLast?_s0 (k : CycleRegs) (h : cs.getLast? = some .s0) : k.after cs = rest := by
  obtain ⟨init, rfl⟩ := List.getLast?_eq_some_iff.1 h
  rw [after_concat, next_s0]

end CycleRegs

/-! ### The steps of a trace, event by event -/

/-- The default level that decoding goes by, none before the first POLL (R102). -/
def State.recorded (s : State) : Option Level := if s.dfltValid then some s.ref else none

theorem State.recorded_of_valid (h : s.dfltValid = true) : s.recorded = some s.ref := if_pos h

theorem State.recorded_of_not_valid (h : s.dfltValid = false) : s.recorded = none := by simp [State.recorded, h]

theorem decodingSteps_cons_of_not_poll (he : isConstruct e = false) (hop : opField e.stim ≠ 0b01#2)
    (ref : Option Level) (es : List Event) : decodingSteps ref (e :: es) = decodingSteps ref es := by
  rcases decode_cases he .cycle4 with ⟨-, hd⟩ | ⟨hpoll, -⟩ | ⟨hpoll, -⟩ | ⟨-, hd⟩ | ⟨-, hd⟩
  · simp [decodingSteps, hd]
  · exact absurd hpoll hop
  · exact absurd hpoll hop
  · simp [decodingSteps, hd]
  · simp [decodingSteps, hd]

theorem decodingSteps_none_cons_poll {a b : Level} (hd : decode .cycle4 e = .pollC4 a b) (es : List Event) :
    decodingSteps none (e :: es) = decodingSteps (some a) es := by
  simp [decodingSteps, hd]

theorem decodingSteps_some_cons_poll {a b : Level} (hd : decode .cycle4 e = .pollC4 a b) (es : List Event) :
    decodingSteps (some r) (e :: es) = stepOf r a b :: decodingSteps (some r) es := by
  simp [decodingSteps, hd]

/-! ### What a trace does -/

/-- `t` is reached from `s` under CYCLE4 by events whose decoding polls see the steps `cs`. -/
structure State.Decodes (s : State) (cs : List StepCode) (t : State) : Prop where
  decodesBy : t.decodesBy .cycle4
  cycle : t.cycle = s.cycle.after cs
  position : t.position = s.position + s.cycle.detents cs

/-- No decoding poll was seen. -/
theorem State.Decodes.of_eq (ht : t.decodesBy .cycle4) (hcycle : t.cycle = s.cycle)
    (hpos : t.position = s.position) : s.Decodes [] t :=
  ⟨ht, hcycle, by simp [hpos]⟩

theorem State.Decodes.append (h : s.Decodes cs t) (h' : t.Decodes ds u) : s.Decodes (cs ++ ds) u where
  decodesBy := h'.decodesBy
  cycle := by rw [h'.cycle, h.cycle, CycleRegs.after_append]
  position := by rw [h'.position, h.position, h.cycle, CycleRegs.detents_append, add_assoc]

theorem State.decodePoll_decodes (hs : s.decodesBy .cycle4) (a b : Level) :
    s.Decodes [stepOf s.ref a b] (s.decodePoll a b) where
  decodesBy := (s.decodePoll_sameLifetime a b).decodesBy hs
  cycle := s.decodePoll_cycle a b
  position := by simp [State.decodePoll_position]

/-- One event of a trace completes and puts its own decoding poll, if it is one, before those of the rest. -/
theorem exec_decodes (hs : s.decodesBy .cycle4) (he : isConstruct e = false) :
    ∃ t cs, exec (decode s.cfg.strategy e) s = .next t ∧ s.Decodes cs t ∧
      ∀ es, decodingSteps s.recorded (e :: es) = cs ++ decodingSteps t.recorded es := by
  rw [hs.2]
  by_cases hop : opField e.stim = 0b01#2
  · have hd := decode_eq_pollC4 he hop
    rw [hd]
    cases hv : s.dfltValid with
    | false =>
      refine ⟨_, _, exec_pollC4_of_first hs hv _ _, .of_eq hs rfl rfl, fun es => ?_⟩
      rw [State.recorded_of_not_valid hv, decodingSteps_none_cons_poll hd]; rfl
    | true =>
      refine ⟨_, _, exec_pollC4_of_decoding hs hv _ _, s.decodePoll_decodes hs _ _, fun es => ?_⟩
      rw [State.recorded_of_valid hv, decodingSteps_some_cons_poll hd,
        State.recorded_of_valid ((s.decodePoll_dfltValid _ _).trans hv), State.decodePoll_ref]; rfl
  · obtain ⟨r, hx⟩ := exec_of_not_poll he hop hs.1 .cycle4
    exact ⟨_, [], hx, .of_eq hs rfl rfl, decodingSteps_cons_of_not_poll he hop _⟩

/-- So a whole trace completes, and its decoding polls are all that counts. -/
theorem runEvents_decodes {es : List Event} (hs : s.decodesBy .cycle4) (hes : ∀ e ∈ es, isConstruct e = false) :
    ∃ t rs, runEvents es s = .next (t, rs) ∧ s.Decodes (decodingSteps s.recorded es) t := by
  induction es generalizing s with
  | nil => exact ⟨s, [], rfl, .of_eq hs rfl rfl⟩
  | cons e es ih =>
    rw [List.forall_mem_cons] at hes
    obtain ⟨t, cs, hx, ht, hsteps⟩ := exec_decodes hs hes.1
    obtain ⟨u, rs, hr, hu⟩ := ih ht.decodesBy hes.2
    exact ⟨u, t.resp :: rs, runEvents_cons_next.2 ⟨t, rs, hx, hr, rfl⟩, hsteps es ▸ ht.append hu⟩

/-- R192: after the first POLL the trace is decoded against the one recorded level, which it leaves recorded. -/
theorem runEvents_decodes_of_valid {es : List Event} (hs : s.decodesBy .cycle4) (hv : s.dfltValid = true)
    (hes : ∀ e ∈ es, isConstruct e = false) :
    ∃ t rs, runEvents es s = .next (t, rs) ∧ s.Decodes (decodingSteps (some s.ref) es) t ∧
      t.dfltValid = true ∧ t.ref = s.ref := by
  obtain ⟨t, rs, hrun, ht⟩ := runEvents_decodes hs hes
  obtain ⟨href, hv'⟩ := referenceIsFixedUnderCycle4.1 es s t rs hs.2 hv hes hrun
  exact ⟨t, rs, hrun, State.recorded_of_valid hv ▸ ht, hv', href⟩

/-- R190, from registers at rest: steps that skip none and come back to step 0 leave them at rest, with a detent counted
for every four moves. -/
theorem State.Decodes.counts (h : s.Decodes cs t) (hrest : s.cycle = CycleRegs.rest)
    (hnear : (StepCode.s0 :: cs).IsChain ringNear) (hend : endsAtRest cs) :
    t.cycle = CycleRegs.rest ∧ ∃ w, winding .s0 cs = some w ∧ 4 * (t.position - s.position) = w := by
  obtain ⟨w, hw⟩ := Option.isSome_iff_exists.1 (grayFrom_iff_isChain.2 hnear)
  obtain ⟨hafter, hcount⟩ := CycleRegs.after_rest_of_winding hw hend
  have hpos : t.position = s.position + CycleRegs.rest.detents cs := hrest ▸ h.position
  exact ⟨by rw [h.cycle, hrest, hafter], w, hw, by omega⟩

/-- From rest, what the position moves by over a trace whose decoding polls see `cs`. -/
theorem State.atRest.runEvents_position {es : List Event} (hr : s.atRest) (hs : s.decodesBy .cycle4)
    (hes : ∀ e ∈ es, isConstruct e = false) (hsteps : decodingSteps (some s.ref) es = cs) :
    ∃ t rs, runEvents es s = .next (t, rs) ∧ t.position = s.position + CycleRegs.rest.detents cs := by
  obtain ⟨t, rs, hrun, ht, -⟩ := runEvents_decodes_of_valid hs hr.1 hes
  exact ⟨t, rs, hrun, hsteps ▸ (State.atRest_iff.1 hr).2 ▸ ht.position⟩

/-! ### The premise `NoSkip` -/

/-- R190, over a whole lifetime: the CONSTRUCT leaves the registers at rest and no level recorded, so that the steps of
the trace are those `NoSkip` speaks of. -/
theorem runEvents_construct_counts {es : List Event} (he : beginsCycle4 e) (hwf : e.cfg.wellFormed = true)
    (hes : ∀ d ∈ es, isConstruct d = false) (hnear : (StepCode.s0 :: decodingSteps none es).IsChain ringNear)
    (hend : endsAtRest (decodingSteps none es)) :
    ∃ t rs w, runEvents (e :: es) s = .next (t, rs) ∧
      winding .s0 (decodingSteps none es) = some w ∧ 4 * t.position = w := by
  have hx : exec (decode s.cfg.strategy e) s = .next (s.construct (configurationOf e.cfg hwf)) := by
    rw [decode_of_isConstruct he.1]
    exact exec_construct_of_wellFormed hwf s
  have hs : (s.construct (configurationOf e.cfg hwf)).decodesBy .cycle4 := ⟨rfl, he.2⟩
  obtain ⟨t, rs, hrun, ht⟩ := runEvents_decodes hs hes
  obtain ⟨-, w, hw, hcount⟩ := ht.counts rfl hnear hend
  refine ⟨t, _, w, runEvents_cons_next.2 ⟨_, rs, hx, hrun, rfl⟩, hw, ?_⟩
  rwa [(s.construct_fresh _).position, sub_zero] at hcount

/-- Settles O50: the run does to the cycle registers what the steps of its decoding polls do, and of these it is known
that without skips four moves are a detent, that step 0 is rest, and what the two skipping sequences report. -/
theorem noSkipOfTheTraceCountsEveryDetent : Obligations.NoSkipOfTheTraceCountsEveryDetent := by
  refine ⟨fun e es s he hwf hes hskip hfirst hend => ?_, fun es s hs hes => ⟨fun hr hnear hend => ?_,
    fun hv hlast => ?_, fun hr hsteps => ?_, fun hr hsteps => ?_⟩⟩
  · have hchain : (decodingSteps none es).IsChain ringNear := hskip e es (List.suffix_refl _) he
    exact runEvents_construct_counts he hwf hes (List.isChain_cons.2 ⟨hfirst, hchain⟩) hend
  · obtain ⟨t, rs, hrun, ht, hv, -⟩ := runEvents_decodes_of_valid hs hr.1 hes
    obtain ⟨hrest, w, hw, hcount⟩ := ht.counts (State.atRest_iff.1 hr).2 hnear hend
    exact ⟨t, rs, w, hrun, State.atRest_iff.2 ⟨hv, hrest⟩, hw, hcount⟩
  · obtain ⟨t, rs, hrun, ht, hv', href⟩ := runEvents_decodes_of_valid hs hv hes
    have hrest : t.cycle = CycleRegs.rest := ht.cycle.trans (CycleRegs.after_eq_rest_of_getLast?_s0 _ hlast)
    exact ⟨t, rs, hrun, State.atRest_iff.2 ⟨hv', hrest⟩, ht.decodesBy, href⟩
  · obtain ⟨t, rs, hrun, hpos⟩ := hr.runEvents_position hs hes hsteps
    exact ⟨t, rs, hrun, hpos.trans (add_zero _)⟩
  · exact hr.runEvents_position hs hes hsteps

end Sys2Proof.Machine
end

section
/-! SUPPORT. Before the first CONSTRUCT and right after it, and a read-out right after a POLL
(spec/70_reset_and_hazards.md R186, R187, R197). -/

namespace Sys2Proof.Machine

variable {s t : State} {e : Event}

/-- R187: with no instance every operation but CONSTRUCT is refused. -/
theorem exec_of_not_live {i : Instr} (hi : ∀ c, i ≠ .construct c) (hlive : s.live = false) :
    exec i s = .refused .noneConstructed := by
  cases i with
  | construct c => exact absurd rfl (hi c)
  | nop => exact State.ifLive_refused.2 ⟨hlive, rfl⟩
  | getposDet => exact State.ifLive_refused.2 ⟨hlive, rfl⟩
  | getposDeg => exact State.ifLive_refused.2 ⟨hlive, rfl⟩
  | pollC4 a b => exact State.ifStrategy_refused.2 (.inl ⟨hlive, rfl⟩)
  | pollEdge a b db => exact State.ifStrategy_refused.2 (.inl ⟨hlive, rfl⟩)

/-- So an operation other than CONSTRUCT that completes leaves an instance. -/
theorem live_of_exec_next {i : Instr} (hi : ∀ c, i ≠ .construct c) (hx : exec i s = .next t) : t.live = true := by
  cases hlive : s.live with
  | true => exact exec_keeps_live hlive hx
  | false => cases (exec_of_not_live hi hlive).symm.trans hx

/-- A run is refused for what its first event is refused for. -/
theorem runEvents_cons_of_refused {r : Refusal} (hx : exec (decode s.cfg.strategy e) s = .refused r)
    (es : List Event) : runEvents (e :: es) s = .refused r := by
  rw [runEvents, step_present, hx]

/-- Settles O13: an event that is no CONSTRUCT decodes to none, and with no instance that is refused. -/
theorem nothingRunsBeforeConstruct : Obligations.NothingRunsBeforeConstruct := by
  refine fun s e hlive => ⟨fun he => ?_, fun he hwf => ?_⟩
  · have hx : exec (decode s.cfg.strategy e) s = .refused .noneConstructed :=
      exec_of_not_live (decode_ne_construct he _) hlive
    exact ⟨hx, runEvents_cons_of_refused hx⟩
  · rw [step_present, decode_of_isConstruct he]
    exact ⟨_, exec_construct_of_wellFormed hwf s, rfl⟩

/-- Settles O39: the POLL leaves an instance and the position moved by what it reports, and that is what is read out. -/
theorem readOutSeesThePollBefore : Obligations.ReadOutSeesThePollBefore := by
  intro i s t hpoll hx
  have hi : ∀ c, i ≠ .construct c := by
    rcases hpoll with ⟨a, b, rfl⟩ | ⟨a, b, db, rfl⟩ <;> exact nofun
  exact ⟨_, execGetposDet_next.2 ⟨live_of_exec_next hi hx, rfl⟩, congrArg Val.int (exec_position hi hx)⟩

/-- Settles O14: the plain CONSTRUCT copies the defaults of `State.reset` and leaves a fresh lifetime. -/
theorem resetIsThePlainConstruct : Obligations.ResetIsThePlainConstruct := by
  intro s t hx
  obtain ⟨_, rfl⟩ := execConstruct_next.1 hx
  rfl

end Sys2Proof.Machine
end
